-- ==== Sys2Proof/Word.lean ====
section
/-! DEFINITION. The word types of the part: bytes of frames, images, transfers and port responses; the 16-bit and
32-bit fields that software or a peer spells as bits. Counts, times and quantities are `Nat` or `Int`. -/

namespace Sys2Proof

/-- One byte on a bus, on the air or in the configuration memory. -/
abbrev Byte := BitVec 8

/-- A two-byte field (an address, a CRC, an enable mask). -/
abbrev Half := BitVec 16

/-- A four-byte field (the argument of SET CLOCK). -/
abbrev Word := BitVec 32

end Sys2Proof
end

