-- ==== Sys2Proof/Syntax.lean ====
section
/-! DEFINITION. The commands of the DX4410: one constructor of `Instr` per row of spec/opcode_table.json, with the
operands that the row's rule names. The table gives no row any bits; operands are the bytes, levels and indices that
the connection concerned carries (spec/00_scope.md section 2). -/

namespace Sys2Proof

/-- The cabinet panel's crew-grade setting (R161). -/
inductive PanelGrade where
  | one | two | three | four
  deriving DecidableEq, Repr

/-- The three panel buttons (R162). -/
inductive Button where
  | openButton | closeButton | confirmButton
  deriving DecidableEq, Repr

/-- Why a frame in FRAME ends as a bad frame (R119). -/
inductive BadCause where
  /-- The payload length field, taken with the fifth header byte, is above 64. -/
  | lengthField
  /-- Carrier detect drops before the frame ends. -/
  | carrierDropped
  /-- The frame ends and fails its CRC. -/
  | crcFailed
  deriving DecidableEq, Repr

/-- The levels that START reads without a filter delay (R82, R84, R161, R162, R193) and the carrier detect level. -/
structure StartPins where
  openMade : Bool
  closedMade : Bool
  keyOn : Bool
  grade : PanelGrade
  openPressed : Bool
  closePressed : Bool
  confirmPressed : Bool
  auxPresent : Bool
  carrier : Bool
  deriving DecidableEq, Repr

/-- A frame as received after its sync word, less the kind byte, which the command's row gives (R115):
header fields, payload and the two CRC bytes. -/
structure RxFrame where
  sender : Half
  seqNo : Byte
  flags : Byte
  payload : List Byte
  crc : Half
  deriving DecidableEq, Repr

/-- A CREW ASK frame whose payload has the seven-byte form of chapter 9; the ask kind is given by the command's row. -/
structure AskFrame where
  sender : Half
  seqNo : Byte
  flags : Byte
  target : Half
  crewId : Half
  grade : Byte
  operand : Byte
  crc : Half
  deriving DecidableEq, Repr

/-- The commands, in the order of spec/opcode_table.json. The rows of the filtered inputs (R65, R84, R161, R162) carry
the level that stands on the input at the command and the ms for which it has already stood there (`held`); the filter
that takes it is state (log entry 9). -/
inductive Instr where
  | powerOn
  | resetPin
  | imageRead (bytes : List Byte) (pins : StartPins)
  | sampleSet (bytes : List Byte)
  | gapTimerExpiry
  | blockEvaluation
  | holdCounterExpiry
  | passageIndication
  | pickupReport
  | timingEnded
  | tripDemand
  | contactReadingChange (openMade : Bool) (openHeld : Nat) (closedMade : Bool) (closedHeld : Nat)
  | tripCompletion
  | tripFailure
  | closeCompletion
  | closeFailure
  | disagreeTimerExpiry
  | deadTimeExpiry
  | rechargeWaitReask
  | rechargeWaitExpiry
  | reclaimExpiry
  | auxUpdate
  | auxTimeout
  | auxSupplyChange (present : Bool) (held : Nat)
  | chargeCount
  | absorbTimeLimit
  | settleTimerExpiry
  | testIntervalExpiry
  | retryExpiry
  | pendingLimit
  | testDurationExpiry
  | syncDetection
  | badFrame (cause : BadCause)
  | frameRefused (kind : Byte) (frame : RxFrame)
  | stateFrame (frame : RxFrame)
  | faultFrame (frame : RxFrame)
  | isolateFrame (frame : RxFrame)
  | tagFrame (frame : RxFrame)
  | recallFrame (frame : RxFrame)
  | crewAnswerFrame (frame : RxFrame)
  | placeAsk (ask : AskFrame)
  | removeAsk (ask : AskFrame)
  | clearOrphanAsk (ask : AskFrame)
  | confirmAsk (ask : AskFrame)
  | openAsk (ask : AskFrame)
  | closeAsk (ask : AskFrame)
  | statusAsk (ask : AskFrame)
  | badAsk (frame : RxFrame)
  | carrierDetectChange (present : Bool)
  | guardTimeExpiry
  | slotTimeExpiry
  | backoffCountZero
  | keyUpDelayExpiry
  | frameSent
  | tailExpiry
  | repeatSpacingExpiry
  | jamTimerExpiry
  | listenWindowExpiry
  | sleepWindowExpiry
  | hourTimerExpiry
  | heartbeatExpiry
  | peerStale (slot : Fin 16)
  | peerLost (slot : Fin 16)
  | countResetTimerExpiry
  | coordinatorBlock
  | tieDelayServed
  | hotLineKey (on : Bool) (held : Nat) (grade : PanelGrade)
  | openButton (held : Nat)
  | closeButton (held : Nat)
  | confirmButton (held : Nat)
  | identityRead (index : Byte)
  | statusRead (index : Byte)
  | peerRead (index : Byte)
  | localTagRead (index : Byte)
  | feederTagRead (index : Byte)
  | faultRecordRead (index : Byte)
  | countersRead (index : Byte)
  | causeRead (index : Byte)
  | trip (index : Byte)
  | close (index : Byte)
  | testStart (index : Byte)
  | testAbort (index : Byte)
  | setClock (index : Byte) (seconds : Word)
  | enableCauses (index : Byte) (mask : Half)
  | restart (index : Byte)
  | unknownRequest (code : Byte) (index : Byte)
  | chipSelectRelease (clocked : Nat)
  | buttonRelease (button : Button) (held : Nat)
  deriving DecidableEq, Repr

end Sys2Proof
end

