-- ==== Sys2Proof/WellFormed.lean ====
section
/-! DEFINITION. Which commands a connection of the part can carry: the checks that the operand types leave open.
A command that fails its check cannot come about as the event its row names; the meanings are total all the same. -/

namespace Sys2Proof

/-- The code bytes of the request table of chapter 10 (R185). -/
def requestCodes : List Nat :=
  [0x01, 0x02, 0x03, 0x04, 0x05, 0x06, 0x07, 0x08, 0x41, 0x42, 0x43, 0x44, 0x45, 0x46, 0x47]

/-- A received frame has at most 64 payload bytes: a greater length field abandons it (R119). -/
def RxFrame.wf (f : RxFrame) : Bool := f.payload.length ≤ 64

/-- The well-formed commands. -/
def Instr.wf : Instr → Bool
  | .frameRefused _ f => f.wf
  | .stateFrame f => f.wf
  | .faultFrame f => f.wf
  | .isolateFrame f => f.wf
  | .tagFrame f => f.wf
  | .recallFrame f => f.wf
  | .crewAnswerFrame f => f.wf
  | .badAsk f => f.wf
  | .unknownRequest code _ => !requestCodes.contains code.toNat
  | .powerOn | .resetPin | .imageRead _ _ | .sampleSet _ | .gapTimerExpiry | .blockEvaluation | .holdCounterExpiry
  | .passageIndication | .pickupReport | .timingEnded | .tripDemand | .contactReadingChange _ _ _ _ | .tripCompletion
  | .tripFailure | .closeCompletion | .closeFailure | .disagreeTimerExpiry | .deadTimeExpiry | .rechargeWaitReask
  | .rechargeWaitExpiry | .reclaimExpiry | .auxUpdate | .auxTimeout | .auxSupplyChange _ _ | .chargeCount
  | .absorbTimeLimit | .settleTimerExpiry | .testIntervalExpiry | .retryExpiry | .pendingLimit | .testDurationExpiry
  | .syncDetection | .badFrame _ | .placeAsk _ | .removeAsk _ | .clearOrphanAsk _ | .confirmAsk _ | .openAsk _
  | .closeAsk _ | .statusAsk _ | .carrierDetectChange _ | .guardTimeExpiry | .slotTimeExpiry | .backoffCountZero
  | .keyUpDelayExpiry | .frameSent | .tailExpiry | .repeatSpacingExpiry | .jamTimerExpiry | .listenWindowExpiry
  | .sleepWindowExpiry | .hourTimerExpiry | .heartbeatExpiry | .peerStale _ | .peerLost _ | .countResetTimerExpiry
  | .coordinatorBlock | .tieDelayServed | .hotLineKey _ _ _ | .openButton _ | .closeButton _ | .confirmButton _
  | .identityRead _ | .statusRead _ | .peerRead _ | .localTagRead _ | .feederTagRead _ | .faultRecordRead _
  | .countersRead _ | .causeRead _ | .trip _ | .close _ | .testStart _ | .testAbort _ | .setClock _ _
  | .enableCauses _ _ | .restart _ | .chipSelectRelease _ | .buttonRelease _ _ => true

end Sys2Proof
end

