-- ==== Sys2Proof/Config.lean ====
section
/-! DEFINITION. What an implementation fixes: the fixed figures of the chapters, the settings of the eleven settings
tables with their built-in defaults, and the free values, which the spec leaves open and nothing here constrains. -/

namespace Sys2Proof

/-- The nth draw of the controller's random generator, of which an URGENT attempt takes the low two bits and a ROUTINE
attempt all four (R128). FREE VALUE: no body, so no proof can rest on it (log entry 3). -/
opaque Config.backoffDraw : Nat → BitVec 4

/-- The silicon revision number less one, 0..254 by `siliconRevisionByte` (R186 gives only its range 1..255).
FREE VALUE (log entry 5). -/
opaque Config.siliconRevision : Nat

/-- How STATUS bytes 51 and 52 code a discharge current I1 below 0 of the given magnitude; R186 states no coding.
FREE VALUE (log entry 6). -/
opaque Config.negativeCurrentCode : Nat → BitVec 16

/-! ## Fixed figures -/

/-- The sync word of a frame (7.2, R115). -/
def syncWord : Half := 0xE25A#16
/-- A full accumulator (2.1). -/
def fullAccumulator : Nat := 1048576
/-- The greatest threshold and the greatest mean square, 2^30 (R17). -/
def maxMeanSquare : Nat := 1073741824
/-- The greatest multiple of a used curve point (R18). -/
def maxMultiple : Nat := 320
/-- A trip-start Q of one wear unit (R76). -/
def wearUnit : Nat := 1048576
/-- The disagree timer runs out at 510 ms: longer than 500 ms at the 10 ms resolution (R66). -/
def disagreeLimit : Nat := 510
/-- A shortened dead time (R52), ms. -/
def shortDeadTime : Nat := 200
/-- The aux timeout (R83), ms. -/
def auxTimeoutLimit : Nat := 2000
/-- The aux supply filter time (R84), ms. -/
def supplyFilter : Nat := 100
/-- The panel filter time (R161), ms. -/
def panelFilter : Nat := 50
/-- The pending limit of 24 hours (R104), ms. -/
def pendingLimitMs : Nat := 86400000
/-- The hour of the survival allowance (R131), ms. -/
def hourMs : Nat := 3600000
/-- The number of sync detections of a link window (R123). -/
def windowDetections : Nat := 32
/-- The greatest number of notices in the outbox (R125). -/
def outboxCapacity : Nat := 8
/-- The greatest number of fault records (R181). -/
def logCapacity : Nat := 32
/-- The length of the crew-ask dedupe list and of a sequence set (R121, R166). -/
def recentLength : Nat := 4
/-- The number of time units of 1/12 ms in a millisecond (log entry 1). -/
def ticksPerMs : Nat := 12

/-! ## Settings (the adjusted image copy, R189 to R192) -/

inductive Role where
  | head | midpoint | tie
  deriving DecidableEq, Repr

inductive Curve where
  | fast | delayed
  deriving DecidableEq, Repr

/-- One value per phase. -/
structure Phases where
  a : Nat
  b : Nat
  c : Nat
  deriving DecidableEq, Repr

/-- One point of a curve: multiple of pickup in eighths, increment, and the used mark of R18. -/
structure CurvePoint where
  multiple : Nat
  increment : Nat
  used : Bool
  deriving DecidableEq, Repr

structure IdentitySettings where
  address : Nat
  role : Role
  protectiveFlag : Bool
  sourceSegment : Nat
  loadSegment : Nat
  frequency : Nat
  deriving DecidableEq, Repr

/-- Settings of 1.9. -/
structure MeasurementSettings where
  low : Nat
  high : Nat
  confirm : Nat
  deriving DecidableEq, Repr

/-- Settings of 2.7. -/
structure ProtectionSettings where
  phasePickup : Nat
  groundPickup : Nat
  fastCurve : List CurvePoint
  delayedCurve : List CurvePoint
  fastReset : Nat
  delayedReset : Nat
  holdCount : Nat
  window : Nat
  passageConfirm : Nat
  deriving DecidableEq, Repr

/-- Settings of 3.13; reclaim time and recharge wait in seconds, dead times in ms. -/
structure SequenceSettings where
  shots : Nat
  curves : List Curve
  deadTimes : List Nat
  reclaim : Nat
  recharge : Nat
  deriving DecidableEq, Repr

/-- Settings of 4.9. -/
structure SwitchSettings where
  contactFilter : Nat
  tripLimit : Nat
  closeLimit : Nat
  wearLimit : Nat
  tripsPreset : Nat
  closesPreset : Nat
  wearPreset : Phases
  deriving DecidableEq, Repr

/-- Settings of 5.5, in 0.1 V. -/
structure EnergySettings where
  tripReady : Nat
  tripLow : Nat
  tripFull : Nat
  closeReady : Nat
  closeLow : Nat
  closeFull : Nat
  deriving DecidableEq, Repr

/-- Settings of 6.6, in the units of that table. -/
structure BatterySettings where
  capacity : Nat
  efficiency : Nat
  absorbNominal : Nat
  floatNominal : Nat
  coefficient : Nat
  vmin : Nat
  vmax : Nat
  rebulk : Nat
  currentLimit : Nat
  taper : Nat
  absorbHours : Nat
  absent : Nat
  critical : Nat
  lowBand : Nat
  fairBand : Nat
  settle : Nat
  testHours : Nat
  retryMinutes : Nat
  duration : Nat
  minCurrent : Nat
  goodLimit : Nat
  failLimit : Nat
  endVoltage : Nat
  abortFloor : Nat
  deriving DecidableEq, Repr

/-- Settings of 7.10; busy limit and heartbeat interval in seconds, the other times in ms. -/
structure RadioSettings where
  bitRate : Nat
  keyUp : Nat
  tail : Nat
  wake : Nat
  slot : Nat
  busy : Nat
  repeats : Nat
  spacing : Nat
  listen : Nat
  sleep : Nat
  heartbeat : Nat
  allowance : Nat
  deriving DecidableEq, Repr

/-- Settings of 8.11; windows in ms, tie delay in seconds, validity in minutes. -/
structure CoordinationSettings where
  sectionWindow : Nat
  isolateWindow : Nat
  sectionalizeCount : Nat
  isolateCount : Nat
  tieDelay : Nat
  validity : Nat
  deriving DecidableEq, Repr

/-- One entry of the crew roster (R167). -/
structure RosterEntry where
  crewId : Nat
  grade : Nat
  deriving DecidableEq, Repr

/-- Settings of 9.11. -/
structure CrewSettings where
  roster : List RosterEntry
  operateGrade : Nat
  orphanGrade : Nat
  deriving DecidableEq, Repr

/-- Every setting of the image, by the groups of 11.1. -/
structure Settings where
  identity : IdentitySettings
  measurement : MeasurementSettings
  protection : ProtectionSettings
  sequence : SequenceSettings
  switch : SwitchSettings
  energy : EnergySettings
  battery : BatterySettings
  radio : RadioSettings
  coordination : CoordinationSettings
  crew : CrewSettings
  alarmEnables : BitVec 12
  deriving DecidableEq, Repr

/-- The built-in defaults as the settings tables give them, before the adjustments of R191. Points not listed hold
multiple 0 (2.7); their increments, which no rule uses, stand at 1. -/
def Settings.builtIn : Settings where
  identity :=
    { address := 1, role := .head, protectiveFlag := true, sourceSegment := 0, loadSegment := 0, frequency := 50 }
  measurement := { low := 2000, high := 6000, confirm := 3 }
  protection :=
    { phasePickup := 1000
      groundPickup := 400
      fastCurve :=
        [⟨8, 64, false⟩, ⟨12, 256, false⟩, ⟨16, 1024, false⟩, ⟨32, 16384, false⟩, ⟨80, 1048576, false⟩] ++
          List.replicate 11 ⟨0, 1, false⟩
      delayedCurve :=
        [⟨8, 32, false⟩, ⟨12, 128, false⟩, ⟨16, 512, false⟩, ⟨32, 4096, false⟩, ⟨80, 131072, false⟩,
          ⟨160, 1048576, false⟩] ++ List.replicate 10 ⟨0, 1, false⟩
      fastReset := 512
      delayedReset := 256
      holdCount := 6
      window := 500
      passageConfirm := 2 }
  sequence :=
    { shots := 4
      curves := [.fast, .fast, .delayed, .delayed]
      deadTimes := [2000, 10000, 15000]
      reclaim := 30
      recharge := 20 }
  switch :=
    { contactFilter := 20, tripLimit := 80, closeLimit := 250, wearLimit := 250000, tripsPreset := 0
      closesPreset := 0, wearPreset := ⟨0, 0, 0⟩ }
  energy :=
    { tripReady := 1800, tripLow := 1900, tripFull := 2100, closeReady := 2000, closeLow := 2150, closeFull := 2400 }
  battery :=
    { capacity := 24000, efficiency := 243, absorbNominal := 28800, floatNominal := 27600, coefficient := 36
      vmin := 26400, vmax := 29400, rebulk := 25800, currentLimit := 4000, taper := 400, absorbHours := 4
      absent := 6000, critical := 22800, lowBand := 24000, fairBand := 24800, settle := 120, testHours := 168
      retryMinutes := 30, duration := 10, minCurrent := 2000, goodLimit := 120, failLimit := 200
      endVoltage := 23000, abortFloor := 21600 }
  radio :=
    { bitRate := 1200, keyUp := 30, tail := 10, wake := 64, slot := 20, busy := 15, repeats := 3, spacing := 500
      listen := 100, sleep := 2000, heartbeat := 60, allowance := 6 }
  coordination :=
    { sectionWindow := 2000, isolateWindow := 5000, sectionalizeCount := 2, isolateCount := 2, tieDelay := 30
      validity := 10 }
  crew := { roster := [], operateGrade := 2, orphanGrade := 3 }
  alarmEnables := 0xFFF#12

end Sys2Proof
end

