-- ==== Sys2Proof/Machine/Bytes.lean ====
section
/-! DEFINITION. Bytes, multi-byte fields (high byte first, 6 Conventions), bit fields, saturation and the CRC of R117. -/

namespace Sys2Proof.Machine

/-- The byte of a number below 256 (a greater number keeps its low eight bits). -/
def byte (n : Nat) : Byte := BitVec.ofNat 8 n

/-- Two bytes, high byte first. -/
def be16 (n : Nat) : List Byte := [byte (n / 256), byte n]

/-- Four bytes, high byte first. -/
def be32 (n : Nat) : List Byte := [byte (n / 16777216), byte (n / 65536), byte (n / 256), byte n]

/-- Five bytes, high byte first. -/
def be40 (n : Nat) : List Byte := byte (n / 4294967296) :: be32 n

/-- The byte at a place of a list, 0 beyond its end. -/
def byteAt (bs : List Byte) (i : Nat) : Nat := (bs.getD i 0).toNat

/-- A two-byte unsigned field at a place. -/
def u16At (bs : List Byte) (i : Nat) : Nat := byteAt bs i * 256 + byteAt bs (i + 1)

/-- A four-byte unsigned field at a place. -/
def u32At (bs : List Byte) (i : Nat) : Nat := u16At bs i * 65536 + u16At bs (i + 2)

/-- A two-byte signed field at a place, two's complement. -/
def s16At (bs : List Byte) (i : Nat) : Int :=
  let n := u16At bs i
  if n < 32768 then (n : Int) else (n : Int) - 65536

/-- The field of `width` bits whose lowest bit is bit `lo`. -/
def bits (n lo width : Nat) : Nat := n / 2 ^ lo % 2 ^ width

/-- Whether bit `k` is 1. -/
def bitSet (n k : Nat) : Bool := bits n k 1 = 1

/-- A mark as a bit of weight `w`. -/
def flag (b : Bool) (w : Nat) : Nat := if b then w else 0

/-- A list cut or filled with 0 to a length. -/
def padTo (len : Nat) (bs : List Byte) : List Byte := (bs ++ List.replicate len 0).take len

/-- One more, saturating at 65,535: the 16-bit counters of R15, R94, R133, R158, R178, R181, R185. -/
def sat16 (n : Nat) : Nat := min (n + 1) 65535

/-- A sum saturating at 4,294,967,295: the 32-bit counters of R75 and R76. -/
def sat32 (n k : Nat) : Nat := min (n + k) 4294967295

/-- The bits of a word, high bit first. -/
def wordBits {n : Nat} (w : BitVec n) : List Bool := (List.range n).map fun k => w.getMsbD k

/-- One bit time of the CRC register: x^16 + x^12 + x^5 + 1, high bit first (R117). -/
def crcBit (r : BitVec 16) : BitVec 16 :=
  if r.getLsbD 15 then (r <<< 1) ^^^ 0x1021#16 else r <<< 1

/-- One byte of the CRC (R117). -/
def crcByte (r : BitVec 16) (b : Byte) : BitVec 16 :=
  let r0 := r ^^^ ((b.zeroExtend 16) <<< 8)
  crcBit (crcBit (crcBit (crcBit (crcBit (crcBit (crcBit (crcBit r0)))))))

/-- The CRC of R117: register from 0xFFFF, no final inversion. -/
def crc16 (bs : List Byte) : BitVec 16 := bs.foldl crcByte 0xFFFF#16

end Sys2Proof.Machine
end

