-- ==== Sys2Proof/Machine/Image.lean ====
section
/-! DEFINITION. The configuration image (chapter 11): its fields, the clamps and adjustments of R191 with their count,
the built-in defaults of R192, and the derived settings. -/

namespace Sys2Proof.Machine

/-! ## Counting clamps -/

/-- A value read under a running clamp count. -/
abbrev Clamped (α : Type) := StateM Nat α

/-- One value replaced (R191). -/
def countClamp : Clamped Unit := modify (· + 1)

/-- Counts when the value has changed. -/
def countIf (changed : Bool) : Clamped Unit := if changed then countClamp else pure ()

/-- A numeric field brought to the nearer end of its range (R191). -/
def clampField (lo hi v : Nat) : Clamped Nat :=
  if v < lo then do countClamp; pure lo
  else if hi < v then do countClamp; pure hi
  else pure v

/-- A coded field that holds no code of its table takes the built-in default (R191). -/
def codedField {α : Type} (value : Option α) (default : α) : Clamped α :=
  match value with
  | some x => pure x
  | none => do countClamp; pure default

def roleOfCode : Nat → Option Role
  | 0 => some .head
  | 1 => some .midpoint
  | 2 => some .tie
  | _ => none

def curveOfCode : Nat → Option Curve
  | 0 => some .fast
  | 1 => some .delayed
  | _ => none

def yesNoOfCode : Nat → Option Bool
  | 0 => some false
  | 1 => some true
  | _ => none

/-- The nominal frequency is held as its value; any other value is taken as 50 and counted (1.9). -/
def frequencyOfValue (v : Nat) : Option Nat := if v = 50 ∨ v = 60 then some v else none

/-- The bit rate is held as its value; any other value is taken as 1200 and counted (7.10). -/
def bitRateOfValue (v : Nat) : Option Nat :=
  if v = 1200 ∨ v = 2400 ∨ v = 4800 ∨ v = 9600 then some v else none

/-! ## Curves (R18, R19) -/

/-- Marks the points after the first: used when the multiple is greater than that of the last used point and not
greater than 320 (R18). -/
def markPoints (last : Nat) : List CurvePoint → List CurvePoint
  | [] => []
  | p :: ps =>
    if last < p.multiple ∧ p.multiple ≤ maxMultiple then
      { p with used := true } :: markPoints p.multiple ps
    else
      { p with used := false } :: markPoints last ps

/-- R18: point 0 is always used with multiple 8; another image value counts. -/
def markCurve : List CurvePoint → Clamped (List CurvePoint)
  | [] => pure []
  | p :: ps => do
    countIf (p.multiple ≠ 8)
    pure ({ p with multiple := 8, used := true } :: markPoints 8 ps)

/-- R19: every increment clamped to 1..1,048,576, each clamp counted. -/
def clampIncrements : List CurvePoint → Clamped (List CurvePoint)
  | [] => pure []
  | p :: ps => do
    let d ← clampField 1 fullAccumulator p.increment
    let rest ← clampIncrements ps
    pure ({ p with increment := d } :: rest)

/-- R19: the increment of a used point below that of the last used point before it is raised to it, each raise
counted. -/
def raiseIncrements (last : Nat) : List CurvePoint → Clamped (List CurvePoint)
  | [] => pure []
  | p :: ps =>
    if p.used then do
      countIf (p.increment < last)
      let d := max p.increment last
      let rest ← raiseIncrements d ps
      pure ({ p with increment := d } :: rest)
    else do
      let rest ← raiseIncrements last ps
      pure (p :: rest)

/-- The adjustments of R18 and R19 for one curve. -/
def adjustCurve (ps : List CurvePoint) : Clamped (List CurvePoint) := do
  let ps ← markCurve ps
  let ps ← clampIncrements ps
  raiseIncrements 0 ps

/-! ## Adjustments after the clamps (R191) -/

/-- R10: a high threshold not greater than the low one. -/
def adjustWindow (m : MeasurementSettings) : Clamped MeasurementSettings :=
  if m.high ≤ m.low then
    if m.low = 23170 then do
      countClamp
      countIf (m.high ≠ 23170)
      pure { m with low := 23169, high := 23170 }
    else do
      countClamp
      pure { m with high := m.low + 1 }
  else pure m

/-- R18, R19 for both curves; the reset decrements are clamped with the fields. -/
def adjustProtection (p : ProtectionSettings) : Clamped ProtectionSettings := do
  let fast ← adjustCurve p.fastCurve
  let delayed ← adjustCurve p.delayedCurve
  pure { p with fastCurve := fast, delayedCurve := delayed }

/-- R95 for one bank: ready threshold, low mark and full mark. -/
def adjustBank (ready low full : Nat) : Clamped (Nat × Nat × Nat) := do
  let (low, full) ←
    if full ≤ low then
      if low = 4000 then do
        countClamp
        countIf (full ≠ 4000)
        pure (3999, 4000)
      else do
        countClamp
        pure (low, low + 1)
    else pure (low, full)
  countIf (full < ready)
  pure (min ready full, low, full)

/-- R95 for both banks. -/
def adjustEnergy (e : EnergySettings) : Clamped EnergySettings := do
  let (tr, tl, tf) ← adjustBank e.tripReady e.tripLow e.tripFull
  let (cr, cl, cf) ← adjustBank e.closeReady e.closeLow e.closeFull
  pure { tripReady := tr, tripLow := tl, tripFull := tf, closeReady := cr, closeLow := cl, closeFull := cf }

/-- R112: the setpoint limits. -/
def adjustVmax (b : BatterySettings) : Clamped BatterySettings :=
  if b.vmax ≤ b.vmin then
    if b.vmin = 32000 then do
      countClamp
      countIf (b.vmax ≠ 32000)
      pure { b with vmin := 31999, vmax := 32000 }
    else do
      countClamp
      pure { b with vmax := b.vmin + 1 }
  else pure b

/-- R112: the four cross-checks in order. -/
def adjustBattery (b : BatterySettings) : Clamped BatterySettings := do
  let b ← adjustVmax b
  countIf (b.absorbNominal < b.floatNominal)
  let b := { b with floatNominal := min b.floatNominal b.absorbNominal }
  countIf (b.failLimit < b.goodLimit)
  let b := { b with failLimit := max b.failLimit b.goodLimit }
  countIf (b.lowBand < b.critical)
  let b := { b with lowBand := max b.lowBand b.critical }
  countIf (b.fairBand < b.lowBand)
  let b := { b with fairBand := max b.fairBand b.lowBand }
  countIf (b.critical ≤ b.absent)
  pure { b with absent := if b.critical ≤ b.absent then b.critical - 1 else b.absent }

/-- R116: the least wake length. -/
def wakeMinimum (r : RadioSettings) : Nat := ((r.sleep + r.listen) * r.bitRate + 999) / 1000 + 32

/-- R116: a wake length below the minimum is raised to it. -/
def adjustRadio (r : RadioSettings) : Clamped RadioSettings := do
  countIf (r.wake < wakeMinimum r)
  pure { r with wake := max r.wake (wakeMinimum r) }

/-- The adjustments of the owning chapters (table of R191). -/
def adjustSettings (s : Settings) : Clamped Settings := do
  let measurement ← adjustWindow s.measurement
  let protection ← adjustProtection s.protection
  let energy ← adjustEnergy s.energy
  let battery ← adjustBattery s.battery
  let radio ← adjustRadio s.radio
  pure { s with measurement, protection, energy, battery, radio }

/-! ## Fields of the image (11.1), each brought within its range -/

def readIdentity (im : List Byte) : Clamped IdentitySettings := do
  let address ← clampField 1 4000 (u16At im 6)
  let role ← codedField (roleOfCode (byteAt im 8)) .head
  let protectiveFlag ← codedField (yesNoOfCode (byteAt im 9)) true
  let sourceSegment ← clampField 0 250 (byteAt im 10)
  let loadSegment ← clampField 0 250 (byteAt im 11)
  let frequency ← codedField (frequencyOfValue (byteAt im 12)) 50
  pure { address, role, protectiveFlag, sourceSegment, loadSegment, frequency }

def readMeasurement (im : List Byte) : Clamped MeasurementSettings := do
  let low ← clampField 16 23170 (u16At im 13)
  let high ← clampField 16 23170 (u16At im 15)
  let confirm ← clampField 1 8 (byteAt im 17)
  pure { low, high, confirm }

/-- `n` points of 6 bytes from a place; multiples are not clamped (R18), increments are clamped by `adjustCurve`. -/
def readPoints (im : List Byte) (at0 : Nat) : Nat → List CurvePoint
  | 0 => []
  | n + 1 => { multiple := u16At im at0, increment := u32At im (at0 + 2), used := false } :: readPoints im (at0 + 6) n

def readProtection (im : List Byte) : Clamped ProtectionSettings := do
  let phasePickup ← clampField 16 23170 (u16At im 18)
  let groundPickup ← clampField 16 23170 (u16At im 20)
  let fastReset ← clampField 0 fullAccumulator (u32At im 214)
  let delayedReset ← clampField 0 fullAccumulator (u32At im 218)
  let holdCount ← clampField 0 25 (byteAt im 222)
  let window ← clampField 0 2000 (u16At im 223)
  let passageConfirm ← clampField 1 8 (byteAt im 225)
  pure
    { phasePickup, groundPickup, fastCurve := readPoints im 22 16, delayedCurve := readPoints im 118 16, fastReset
      delayedReset, holdCount, window, passageConfirm }

def readSequence (im : List Byte) : Clamped SequenceSettings := do
  let shots ← clampField 1 4 (byteAt im 226)
  let c1 ← codedField (curveOfCode (byteAt im 227)) .fast
  let c2 ← codedField (curveOfCode (byteAt im 228)) .fast
  let c3 ← codedField (curveOfCode (byteAt im 229)) .delayed
  let c4 ← codedField (curveOfCode (byteAt im 230)) .delayed
  let d1 ← clampField 200 180000 (u32At im 231)
  let d2 ← clampField 200 180000 (u32At im 235)
  let d3 ← clampField 200 180000 (u32At im 239)
  let reclaim ← clampField 1 180 (byteAt im 243)
  let recharge ← clampField 0 60 (byteAt im 244)
  pure { shots, curves := [c1, c2, c3, c4], deadTimes := [d1, d2, d3], reclaim, recharge }

def readSwitch (im : List Byte) : Clamped SwitchSettings := do
  let contactFilter ← clampField 10 50 (byteAt im 245)
  let tripLimit ← clampField 30 200 (byteAt im 246)
  let closeLimit ← clampField 50 500 (u16At im 247)
  pure
    { contactFilter, tripLimit, closeLimit, wearLimit := u32At im 249, tripsPreset := u32At im 253
      closesPreset := u32At im 257, wearPreset := ⟨u32At im 261, u32At im 265, u32At im 269⟩ }

def readEnergy (im : List Byte) : Clamped EnergySettings := do
  let tripReady ← clampField 100 4000 (u16At im 273)
  let tripLow ← clampField 100 4000 (u16At im 275)
  let tripFull ← clampField 100 4000 (u16At im 277)
  let closeReady ← clampField 100 4000 (u16At im 279)
  let closeLow ← clampField 100 4000 (u16At im 281)
  let closeFull ← clampField 100 4000 (u16At im 283)
  pure { tripReady, tripLow, tripFull, closeReady, closeLow, closeFull }

def readBattery (im : List Byte) : Clamped BatterySettings := do
  let capacity ← clampField 1000 200000 (u32At im 285)
  let efficiency ← clampField 200 256 (u16At im 289)
  let absorbNominal ← clampField 20000 32000 (u16At im 291)
  let floatNominal ← clampField 20000 32000 (u16At im 293)
  let coefficient ← clampField 0 60 (byteAt im 295)
  let vmin ← clampField 20000 32000 (u16At im 296)
  let vmax ← clampField 20000 32000 (u16At im 298)
  let rebulk ← clampField 20000 32000 (u16At im 300)
  let currentLimit ← clampField 500 20000 (u16At im 302)
  let taper ← clampField 50 5000 (u16At im 304)
  let absorbHours ← clampField 1 24 (byteAt im 306)
  let absent ← clampField 1000 20000 (u16At im 307)
  let critical ← clampField 18000 28000 (u16At im 309)
  let lowBand ← clampField 18000 30000 (u16At im 311)
  let fairBand ← clampField 18000 30000 (u16At im 313)
  let settle ← clampField 10 600 (u16At im 315)
  let testHours ← clampField 0 720 (u16At im 317)
  let retryMinutes ← clampField 10 240 (byteAt im 319)
  let duration ← clampField 2 60 (byteAt im 320)
  let minCurrent ← clampField 500 20000 (u16At im 321)
  let goodLimit ← clampField 1 5000 (u16At im 323)
  let failLimit ← clampField 1 5000 (u16At im 325)
  let endVoltage ← clampField 18000 28000 (u16At im 327)
  let abortFloor ← clampField 18000 28000 (u16At im 329)
  pure
    { capacity, efficiency, absorbNominal, floatNominal, coefficient, vmin, vmax, rebulk, currentLimit, taper
      absorbHours, absent, critical, lowBand, fairBand, settle, testHours, retryMinutes, duration, minCurrent
      goodLimit, failLimit, endVoltage, abortFloor }

def readRadio (im : List Byte) : Clamped RadioSettings := do
  let bitRate ← codedField (bitRateOfValue (u16At im 331)) 1200
  let keyUp ← clampField 5 100 (byteAt im 333)
  let tail ← clampField 5 50 (byteAt im 334)
  let wake ← clampField 64 131072 (u32At im 335)
  let slot ← clampField 10 100 (byteAt im 339)
  let busy ← clampField 5 60 (byteAt im 340)
  let repeats ← clampField 1 4 (byteAt im 341)
  let spacing ← clampField 100 2000 (u16At im 342)
  let listen ← clampField 20 500 (u16At im 344)
  let sleep ← clampField 500 10000 (u16At im 346)
  let heartbeat ← clampField 10 600 (u16At im 348)
  let allowance ← clampField 1 60 (byteAt im 350)
  pure { bitRate, keyUp, tail, wake, slot, busy, repeats, spacing, listen, sleep, heartbeat, allowance }

def readCoordination (im : List Byte) : Clamped CoordinationSettings := do
  let sectionWindow ← clampField 100 10000 (u16At im 351)
  let isolateWindow ← clampField 100 10000 (u16At im 353)
  let sectionalizeCount ← clampField 1 3 (byteAt im 355)
  let isolateCount ← clampField 1 3 (byteAt im 356)
  let tieDelay ← clampField 1 300 (u16At im 357)
  let validity ← clampField 1 60 (byteAt im 359)
  pure { sectionWindow, isolateWindow, sectionalizeCount, isolateCount, tieDelay, validity }

/-- R191: an entry with crew ID 0, or with the crew ID of an earlier entry, is dropped and counted; an entry grade
outside 1..4 is clamped and counted. DESIGN CHOICE (log entry 44): the grade of a dropped entry is not looked at, so such
an entry counts once. -/
def readRoster (im : List Byte) (at0 : Nat) (kept : List RosterEntry) : Nat → Clamped (List RosterEntry)
  | 0 => pure kept
  | n + 1 => do
    let crewId := u16At im at0
    if crewId = 0 ∨ kept.any (·.crewId = crewId) then do
      countClamp
      readRoster im (at0 + 3) kept n
    else do
      let grade ← clampField 1 4 (byteAt im (at0 + 2))
      readRoster im (at0 + 3) (kept ++ [{ crewId, grade }]) n

def readCrew (im : List Byte) : Clamped CrewSettings := do
  let count ← clampField 0 16 (byteAt im 360)
  let roster ← readRoster im 361 [] count
  let operateGrade ← clampField 1 4 (byteAt im 409)
  let orphanGrade ← clampField 1 4 (byteAt im 410)
  pure { roster, operateGrade, orphanGrade }

/-- R191: the fields in the order of the image, then the adjustments. -/
def readSettings (im : List Byte) : Clamped Settings := do
  let identity ← readIdentity im
  let measurement ← readMeasurement im
  let protection ← readProtection im
  let sequence ← readSequence im
  let switch ← readSwitch im
  let energy ← readEnergy im
  let battery ← readBattery im
  let radio ← readRadio im
  let coordination ← readCoordination im
  let crew ← readCrew im
  adjustSettings
    { identity, measurement, protection, sequence, switch, energy, battery, radio, coordination, crew
      alarmEnables := BitVec.ofNat 12 (u16At im 411) }

/-- R192: the built-in defaults with the adjustments made on them, which are not counted. -/
def defaultSettings : Settings := (adjustSettings Settings.builtIn 0).1

/-! ## Usable or not (R189, R190) -/

/-- The bytes of the memory, 0xFF where it does not answer: such a memory fails the format code (R189). -/
def imageCopy (bytes : List Byte) : List Byte := (bytes ++ List.replicate 415 0xFF#8).take 415

/-- R189: the format code is 0x5D41 and the length is 415. -/
def headerUsable (im : List Byte) : Bool := u16At im 0 = 0x5D41 && u16At im 2 = 415

/-- R190: the CRC over bytes 0..412 equals bytes 413..414. -/
def crcUsable (im : List Byte) : Bool := (crc16 (im.take 413)).toNat = u16At im 413

/-- What the Configuration Loader hands on: settings, clamp count, image version and the DEFAULTED flag. -/
structure LoadedImage where
  settings : Settings
  clampCount : Nat
  version : Nat
  defaulted : Bool
  deriving DecidableEq, Repr

/-- R190 to R192: the read of the configuration image. The header is checked before the body is read. -/
def loadImage (bytes : List Byte) : LoadedImage :=
  let im := imageCopy bytes
  if headerUsable im && crcUsable im then
    let r := readSettings im 0
    { settings := r.1, clampCount := min r.2 255, version := u16At im 4, defaulted := false }
  else
    { settings := defaultSettings, clampCount := 0, version := 0, defaulted := true }

/-! ## Derived settings -/

/-- The derived settings of R191: squared presence window, threshold tables (R17), Cfull (R101), gap limit and block
duration of the nominal frequency in units of 1/12 ms (R4). -/
structure Derived where
  tl : Nat
  th : Nat
  phaseFast : List Nat
  phaseDelayed : List Nat
  groundFast : List Nat
  groundDelayed : List Nat
  cfull : Nat
  gapLimit : Nat
  blockDuration : Nat
  deriving DecidableEq, Repr

/-- R17: T_k = floor(pickup² × m_k² / 64), at most 2^30. -/
def threshold (pickup multiple : Nat) : Nat := min (pickup ^ 2 * multiple ^ 2 / 64) maxMeanSquare

/-- R17: the thresholds of one table; the entries of unused points are never read (R18). -/
def thresholdTable (pickup : Nat) (points : List CurvePoint) : List Nat :=
  points.map fun p => threshold pickup p.multiple

def deriveSettings (s : Settings) : Derived where
  tl := s.measurement.low ^ 2
  th := s.measurement.high ^ 2
  phaseFast := thresholdTable s.protection.phasePickup s.protection.fastCurve
  phaseDelayed := thresholdTable s.protection.phasePickup s.protection.delayedCurve
  groundFast := thresholdTable s.protection.groundPickup s.protection.fastCurve
  groundDelayed := thresholdTable s.protection.groundPickup s.protection.delayedCurve
  cfull := s.battery.capacity * 3600 * s.identity.frequency
  gapLimit := 1500 / s.identity.frequency
  blockDuration := 12000 / s.identity.frequency

end Sys2Proof.Machine
end

