-- ==== Sys2Proof/Machine/State.lean ====
section
/-! DEFINITION. The state of the DX4410, one structure per block of spec/00_scope.md section 3, plain data throughout,
with the queue of waiting commands, the outcomes' reason types, and `State.reset`. -/

namespace Sys2Proof.Machine

/-! ## Kinds -/

/-- The three kinds of reset (00_scope.md section 4). -/
inductive ResetKind where
  | powerOn | resetPin | restart
  deriving DecidableEq, Repr

/-- R4. -/
inductive MeasState where
  | sound | lost | recovering
  deriving DecidableEq, Repr

/-- Presence of one side (1.6). -/
inductive Presence where
  | live | dead | unknown
  deriving DecidableEq, Repr

/-- The states of the Overcurrent Unit (2.3). -/
inductive UnitState where
  | quiet | watching | running | hold | demanded
  deriving DecidableEq, Repr

/-- The sequence states of 3.1 less HOLD, which the Sequence Controller reads from the Overcurrent Unit (2.3, R45). -/
inductive SeqPhase where
  | ready | timing | tripping | dead | rechargeWait | reclosing | reclaim | lockout | standby
  deriving DecidableEq, Repr

/-- The ten sequence states as reported (R62). -/
inductive SeqState where
  | ready | timing | hold | tripping | dead | rechargeWait | reclosing | reclaim | lockout | standby
  deriving DecidableEq, Repr

/-- Lockout reasons (3.8). -/
inductive LockoutReason where
  | fault | hotLine | energy | gate | mechanism | sectionalized | isolated | manual | start | handle
  deriving DecidableEq, Repr

/-- The Close Gate's refusal reasons (R78). -/
inductive GateReason where
  | mechanism | unconfirmed | measurement | tag | tripEnergy | closeEnergy
  deriving DecidableEq, Repr

/-- The requesters of a close (4.8). -/
inductive Requester where
  | reclose | restore | panel | crew | maintenance
  deriving DecidableEq, Repr

/-- Outcomes of an event (3.4). -/
inductive EventOutcome where
  | cleared | lockout | sectionalized | isolated
  deriving DecidableEq, Repr

/-- Position states (R66). -/
inductive Position where
  | opened | closed | disagree | jammed
  deriving DecidableEq, Repr

/-- The operation in flight (4.2). -/
inductive Operation where
  | none | trip | close
  deriving DecidableEq, Repr

/-- R83. -/
inductive AuxState where
  | none | valid | expired
  deriving DecidableEq, Repr

/-- States of a capacitor charger (R89). -/
inductive CapCharger where
  | firing | unpowered | heldOff | waiting | charging | idle
  deriving DecidableEq, Repr

/-- States of the battery charger (R97). -/
inductive BatteryCharger where
  | test | off | fault | hot | cold | bulk | absorb | float
  deriving DecidableEq, Repr

/-- Battery grades, best first (chapter 8 codes). -/
inductive BatteryGrade where
  | good | fair | low | critical | failed | absent
  deriving DecidableEq, Repr

/-- Power modes (R111). -/
inductive PowerMode where
  | full | economy | survival
  deriving DecidableEq, Repr

/-- Test states (6.3). -/
inductive TestState where
  | idle | pending | running
  deriving DecidableEq, Repr

/-- Last results (6.3); `none` until a test has ended. -/
inductive TestResult where
  | none | pass | marginal | failed | loadFault | aborted | skipped
  deriving DecidableEq, Repr

/-- The judged result (R106). -/
inductive Judged where
  | none | pass | marginal | failed
  deriving DecidableEq, Repr

/-- Notice kinds that a station sends (7.2). -/
inductive NoticeKind where
  | state | fault | isolate | tag | recall | crewAnswer
  deriving DecidableEq, Repr

/-- Transmit states (7.7). -/
inductive TxState where
  | idle | defer | backoff | keyup | sending | tail | spacing
  deriving DecidableEq, Repr

/-- Receive states (7.3). -/
inductive RxState where
  | sleep | listen | frame
  deriving DecidableEq, Repr

/-- Where the receiver's duty cycle stands (R124): not cycling, in a listen window, in FRAME with the window run out, or
asleep; with the ms elapsed. -/
inductive Duty where
  | off
  | listening (elapsed : Nat)
  | ranOut
  | sleeping (elapsed : Nat)
  deriving DecidableEq, Repr

/-- Link grades (R123). -/
inductive LinkGrade where
  | unrated | good | marginal | poor
  deriving DecidableEq, Repr

/-- Freshness of a peer record (R139). -/
inductive Freshness where
  | fresh | stale | lost
  deriving DecidableEq, Repr

/-- Tag kinds (9.1). -/
inductive TagKind where
  | hotLine | holdOpen
  deriving DecidableEq, Repr

/-- Tag scopes (9.1). -/
inductive Scope where
  | station | source | load
  deriving DecidableEq, Repr

/-- The twelve alarm causes in priority order (10.2). -/
inductive Cause where
  | mechanismFault | measurementLost | lockout | tagOverflow | addressConflict | battery | testFailed | channelJammed
  | linkPoor | peerLost | configDefaulted | wearLimit
  deriving DecidableEq, Repr

/-- One value per element A, B, C, G (chapter 2). -/
structure Quad (α : Type) where
  a : α
  b : α
  c : α
  g : α
  deriving DecidableEq, Repr

/-- One filtered input (R65, R84, R161): the level on it when it was last looked at, and, while that differs from the level
taken, the time for which it has held, in 1/12 ms. -/
structure Input where
  level : Bool
  timer : Option Nat
  deriving DecidableEq, Repr

/-! ## Blocks -/

/-- Configuration Loader: the adjusted image copy and what it derives (chapter 11). -/
structure Loader where
  settings : Settings
  derived : Derived
  defaulted : Bool
  clampCount : Nat
  version : Nat
  deriving DecidableEq, Repr

/-- Station Clock (R194). `fraction` counts 1/12 ms of the time base and `subFraction` 1/12 ms of the sub-second count, the
model's finest resolution (log entry 1). -/
structure Clock where
  ms : Nat
  fraction : Nat
  seconds : Nat
  subSecond : Nat
  subFraction : Nat
  deriving DecidableEq, Repr

/-- An aux group (R13). -/
structure AuxGroup where
  vbat : Nat
  ibat : Int
  vtrip : Nat
  vclose : Nat
  temp : Int
  deriving DecidableEq, Repr

/-- A well-formed sample set (1.1). -/
structure SampleSet where
  count : Nat
  ia : Int
  ib : Int
  ic : Int
  vsrc : Int
  vload : Int
  aux : Option AuxGroup
  deriving DecidableEq, Repr

/-- The six sums of squares of the block in progress (1.4). -/
structure Sums where
  a : Nat
  b : Nat
  c : Nat
  g : Nat
  src : Nat
  load : Nat
  deriving DecidableEq, Repr

/-- Presence of one side with its confirmation runs (1.6). -/
structure Side where
  presence : Presence
  above : Nat
  below : Nat
  deriving DecidableEq, Repr

/-- Sample Port and Measurement Unit (chapter 1). `filling` is the formation state FILLING. -/
structure Meas where
  current : Option SampleSet
  state : MeasState
  recovery : Nat
  lastCount : Option Nat
  filling : Bool
  position : Nat
  sums : Sums
  clips : Quad Bool
  gap : Option Nat
  discards : Nat
  src : Side
  load : Side
  aux : Option AuxGroup
  auxNew : Bool
  setsRejected : Nat
  blocksDiscarded : Nat
  losses : Nat
  deriving DecidableEq, Repr

/-- One block publication (R9), stamped with the time base at the publication, with the presence before it, whether
measurement is SOUND after it, and what the voltage-loss logic asks of that moment (R148): whether the role, the
position and the sequence state let it run, and the last pickup time then held. -/
structure Publication where
  q : Quad Nat
  clips : Quad Bool
  srcWas : Presence
  src : Presence
  loadWas : Presence
  load : Presence
  aux : Option AuxGroup
  auxNew : Bool
  sound : Bool
  lossRuns : Bool
  lastPickup : Option Nat
  time : Nat
  deriving DecidableEq, Repr

/-- The shot offer (2.3). -/
structure Offer where
  shot : Nat
  curve : Curve
  protective : Bool
  holdEnabled : Bool
  hotForced : Bool
  newEvent : Bool
  deriving DecidableEq, Repr

/-- The active settings of a shot (R25). -/
structure Active where
  shot : Nat
  curve : Curve
  protective : Bool
  holdEnabled : Bool
  hotForced : Bool
  deriving DecidableEq, Repr

/-- The shot summary (R38). -/
structure ShotSummary where
  shot : Nat
  elements : Quad Bool
  highest : Nat
  clipped : Bool
  indicated : Bool
  deriving DecidableEq, Repr

/-- The event summary (R39). -/
structure EventSummary where
  elements : Quad Bool
  peak : Quad Nat
  holdUsed : Bool
  fastBlocked : Bool
  deriving DecidableEq, Repr

/-- Overcurrent Unit (chapter 2). -/
structure Oc where
  unit : UnitState
  offer : Option Offer
  active : Option Active
  fast : Quad Nat
  delayed : Quad Nat
  fastArmed : Bool
  delayedArmed : Bool
  hold : Nat
  fastBlocked : Bool
  latestQ : Quad Nat
  lastPickup : Option Nat
  passageRun : Nat
  shotSummary : Option ShotSummary
  eventSummary : EventSummary
  deriving DecidableEq, Repr

/-- What the Overcurrent Unit hands to the Sequence Controller (2.4, R25, R28). -/
inductive OcReport where
  | pickup (newEvent : Bool)
  | timingEnded
  | demand (curve : Curve) (elements : Quad Bool) (shot : Nat)
  deriving DecidableEq, Repr

/-- Work handed over and not yet taken, oldest first (log entry 4): block publications by consumer, aux updates for the
re-ask of R51, the Overcurrent Unit's reports, passage indications. -/
structure Mail where
  overcurrent : List Publication
  energy : List Publication
  battery : List Publication
  coordinator : List Publication
  reasks : Nat
  reports : List OcReport
  passages : List ShotSummary
  deriving DecidableEq, Repr

/-- The reasons for which a trip was requested (3.6). -/
structure TripCauses where
  fault : Bool
  manual : Bool
  sectionalize : Bool
  isolate : Bool
  deriving DecidableEq, Repr

/-- The event context (3.4). -/
structure EventContext where
  number : Nat
  start : Nat
  grade : BatteryGrade
  shots : Nat
  deriving DecidableEq, Repr

/-- Sequence Controller (chapter 3). The three timers hold the remaining ms. -/
structure Seq where
  phase : SeqPhase
  shot : Nat
  deadTimer : Option Nat
  waitTimer : Option Nat
  reclaimTimer : Option Nat
  eventNumber : Nat
  event : Option EventContext
  hotLine : Bool
  reason : Option LockoutReason
  detail : Option GateReason
  causes : TripCauses
  hotMark : Bool
  heldCauses : TripCauses
  fromReady : Bool
  recloseInFlight : Bool
  sectionalizeCount : Nat
  isolateCount : Nat
  deriving DecidableEq, Repr

/-- Mechanism Driver (chapter 4). `contactOpen` and `contactClosed` are the filtered contact levels; `lastClosed` is the
last agreed position: CLOSED when set, OPEN when clear. -/
structure Mech where
  openInput : Input
  closedInput : Input
  contactOpen : Bool
  contactClosed : Bool
  position : Position
  lastClosed : Bool
  operation : Operation
  heldTrip : Bool
  operationTimer : Option Nat
  disagreeTimer : Option Nat
  tripCoil : Bool
  closeCoil : Bool
  tripStartQ : Option Phases
  trips : Nat
  closes : Nat
  wear : Phases
  deriving DecidableEq, Repr

/-- The last refusal record (R81). -/
structure Refused where
  reason : GateReason
  requester : Requester
  time : Nat
  deriving DecidableEq, Repr

/-- Energy Monitor (chapter 5). -/
structure Energy where
  aux : AuxState
  auxTimer : Option Nat
  vtrip : Nat
  vclose : Nat
  tripReady : Bool
  closeReady : Bool
  tripFired : Nat
  closeFired : Nat
  tripCharger : CapCharger
  closeCharger : CapCharger
  supplyInput : Input
  supply : Bool
  expiries : Nat
  deriving DecidableEq, Repr

/-- The last test result with its figures (R106); a figure not worked out is `none`. -/
structure LastResult where
  result : TestResult
  v0 : Option Nat
  v1 : Option Nat
  i1 : Option Int
  r : Option Nat
  time : Nat
  deriving DecidableEq, Repr

/-- Battery Manager (chapter 6). `seen` says that the first aux update since the reset has been taken (R97), `held` is the
aux group of the last publication, `provisional` marks the grade of R113 that the first candidate replaces. -/
structure Battery where
  charger : BatteryCharger
  absorbTimer : Option Nat
  hot : Bool
  cold : Bool
  absorbSet : Int
  floatSet : Int
  seen : Bool
  held : Option AuxGroup
  cq : Nat
  soc : Nat
  uncalibrated : Bool
  test : TestState
  intervalTimer : Option Nat
  retryTimer : Option Nat
  durationTimer : Option Nat
  pendingTimer : Option Nat
  v0 : Nat
  last : LastResult
  judged : Judged
  grade : BatteryGrade
  provisional : Bool
  candidate : Option BatteryGrade
  absentRun : Nat
  settleTimer : Option Nat
  settleCandidate : Option BatteryGrade
  loadHold : Nat
  mode : PowerMode
  deriving DecidableEq, Repr

/-- One notice in the outbox (7.6). `attempted` marks the notice of the attempt or service in hand (R128). -/
structure Notice where
  kind : NoticeKind
  payload : List Byte
  made : Nat
  total : Nat
  seqNo : Option Nat
  replaced : Bool
  attempted : Bool
  deriving DecidableEq, Repr

/-- Radio Line Controller (chapter 7). `timer` is the time in the present transmit state, `airTicks` the time in SENDING
in 1/12 ms, `draws` the number of backoff draws made (log entry 3), `search` the last 16 bits shifted into the sync search
(R118). -/
structure Radio where
  outbox : List Notice
  tx : TxState
  backoff : Nat
  timer : Nat
  airTicks : Nat
  onAir : List Byte
  frame : List Byte
  preamble : Nat
  nextSeq : Nat
  rx : RxState
  search : Half
  duty : Duty
  carrier : Bool
  guardTimer : Option Nat
  jamTimer : Nat
  jammed : Bool
  windowSyncs : Nat
  windowBad : Nat
  link : LinkGrade
  allowance : Nat
  hourTimer : Option Nat
  heartbeat : Option Nat
  draws : Nat
  framesSent : Nat
  framesAccepted : Nat
  badFrames : Nat
  duplicates : Nat
  framesRefused : Nat
  addressConflicts : Nat
  outboxOverflow : Nat
  channelJams : Nat
  windowsClosed : Nat
  deriving DecidableEq, Repr

/-- What a STATE, FAULT or ISOLATE payload says of its sender (R135). -/
structure PeerIdentity where
  role : Role
  protective : Bool
  source : Nat
  load : Nat
  deriving DecidableEq, Repr

/-- A fault report (R135). -/
structure FaultReport where
  event : Nat
  elements : Quad Bool
  highest : Nat
  shot : Nat
  clipped : Bool
  heard : Nat
  deriving DecidableEq, Repr

/-- An isolation report (R135). `isolated` is the cause: ISOLATED when set, SECTIONALIZED when clear. -/
structure IsolationReport where
  event : Nat
  isolated : Bool
  faulted : Nat
  cutOff : Nat
  heard : Nat
  superseded : Bool
  deriving DecidableEq, Repr

/-- A peer record (R135). `identity` is absent while role and segments are unknown; `lastState` is the payload of the
last STATE as taken, whose fields `StatePayload` functions read. -/
structure Peer where
  address : Nat
  identity : Option PeerIdentity
  freshness : Freshness
  interval : Nat
  provisional : Bool
  lastHeard : Nat
  sequenceSet : List Nat
  restarted : Bool
  economyHeard : Bool
  lastState : Option (List Byte)
  fault : Option FaultReport
  isolation : Option IsolationReport
  deriving DecidableEq, Repr

/-- Peer Table (8.1, R158). -/
structure PeerTable where
  slots : List (Option Peer)
  tableFull : Nat
  evictions : Nat
  payloadsRefused : Nat
  deriving DecidableEq, Repr

/-- The tie delay timer with its dead side (R155). -/
structure TieDelay where
  deadIsSource : Bool
  elapsed : Nat
  served : Bool
  deriving DecidableEq, Repr

/-- The Feeder Coordinator's working state, kept by the Peer Table (chapter 8). -/
structure Coordination where
  pendingLoss : Option Nat
  countReset : Option Nat
  tie : Option TieDelay
  deriving DecidableEq, Repr

/-- A local tag (R160). -/
structure LocalTag where
  kind : TagKind
  scope : Scope
  crewId : Nat
  grade : Nat
  generation : Nat
  placed : Nat
  blocked : Nat
  recalled : Bool
  deriving DecidableEq, Repr

/-- One slot of the local tag table with its generation counter (R160). -/
structure LocalSlot where
  tag : Option LocalTag
  counter : Nat
  deriving DecidableEq, Repr

/-- A feeder tag entry (R163). -/
structure FeederTag where
  holder : Nat
  number : Nat
  generation : Nat
  kind : TagKind
  scope : Scope
  segment : Nat
  grade : Nat
  crewId : Nat
  orphan : Bool
  blocked : Nat
  deriving DecidableEq, Repr

/-- One ask of the dedupe list with the answer given to it (R166). -/
structure TakenAsk where
  handset : Nat
  seqNo : Nat
  answer : List Byte
  deriving DecidableEq, Repr

/-- Tag Unit (chapter 9). `keyOn` and the three `Pressed` fields are the filtered levels of the panel; `panelGrade` is the
panel's crew-grade setting as last read. -/
structure Tags where
  slots : List LocalSlot
  feeder : List (Option FeederTag)
  unconfirmed : Bool
  overflow : Bool
  dedupe : List TakenAsk
  keyInput : Input
  openInput : Input
  closeInput : Input
  confirmInput : Input
  panelGrade : PanelGrade
  keyOn : Bool
  openPressed : Bool
  closePressed : Bool
  confirmPressed : Bool
  asksTaken : Nat
  duplicateAsks : Nat
  payloadsRefused : Nat
  recallsIgnored : Nat
  recallConflicts : Nat
  deriving DecidableEq, Repr

/-- A fault record (R180). -/
structure FaultRecord where
  number : Nat
  start : Nat
  elements : Quad Bool
  peak : Quad Nat
  shots : Nat
  fastBlocked : Bool
  holdUsed : Bool
  outcome : EventOutcome
  reason : Option LockoutReason
  grade : BatteryGrade
  deriving DecidableEq, Repr

/-- Record Log (R181), newest first. -/
structure Log where
  records : List FaultRecord
  written : Nat
  overwrites : Nat
  deriving DecidableEq, Repr

/-- Alarm Unit (R182): bit p − 1 of each word is the cause of priority p. -/
structure Alarms where
  flags : BitVec 12
  enables : BitVec 12
  deriving DecidableEq, Repr

/-- The transaction of the maintenance port (10.3). `taken` holds the response that is clocked out, the cause that a CAUSE
read has cleared, and whether the request was an accepted RESTART. -/
inductive Transaction where
  | idle
  | taken (response : List Byte) (cause : Option Cause) (restart : Bool)
  | abandoned
  deriving DecidableEq, Repr

/-- Maintenance Port (R185). -/
structure Port where
  transaction : Transaction
  errors : Nat
  deriving DecidableEq, Repr

/-- The whole machine. `pending` is the queue of waiting commands, oldest first; `startUp` is the kind of the start-up in
progress, or none once control is with the blocks (R189). -/
structure State where
  pending : List Instr
  startUp : Option ResetKind
  loader : Loader
  clock : Clock
  meas : Meas
  mail : Mail
  oc : Oc
  seq : Seq
  mech : Mech
  gate : Option Refused
  energy : Energy
  battery : Battery
  radio : Radio
  peers : PeerTable
  coord : Coordination
  tags : Tags
  log : Log
  alarms : Alarms
  port : Port
  deriving DecidableEq, Repr

/-- Why the machine stops. No rule of the spec stops the part, so there is no fault. -/
inductive Fault where
  deriving DecidableEq, Repr

/-- Why a command has no meaning. -/
inductive Refusal where
  /-- Raised by `exec` alone for a command that the model gives no meaning yet; safe, the machine stops. -/
  | notModelled (mnemonic : String)
  deriving DecidableEq, Repr

/-! ## Reset values of the blocks -/

def Quad.zero : Quad Nat := ⟨0, 0, 0, 0⟩
def Quad.none : Quad Bool := ⟨false, false, false, false⟩
def TripCauses.none : TripCauses := ⟨false, false, false, false⟩
def Sums.zero : Sums := ⟨0, 0, 0, 0, 0, 0⟩
def Phases.zero : Phases := ⟨0, 0, 0⟩
def EventSummary.empty : EventSummary := ⟨Quad.none, Quad.zero, false, false⟩
def LastResult.empty : LastResult := ⟨.none, none, none, none, none, 0⟩
def Side.reset : Side := ⟨.unknown, 0, 0⟩

def Loader.reset : Loader :=
  { settings := defaultSettings, derived := deriveSettings defaultSettings, defaulted := false, clampCount := 0
    version := 0 }

def Clock.reset : Clock := { ms := 0, fraction := 0, seconds := 0, subSecond := 0, subFraction := 0 }

/-- R16. -/
def Meas.reset : Meas :=
  { current := none, state := .recovering, recovery := 0, lastCount := none, filling := false, position := 0
    sums := Sums.zero, clips := Quad.none, gap := none, discards := 0, src := Side.reset, load := Side.reset
    aux := none, auxNew := false, setsRejected := 0, blocksDiscarded := 0, losses := 0 }

def Mail.reset : Mail :=
  { overcurrent := [], energy := [], battery := [], coordinator := [], reasks := 0, reports := [], passages := [] }

/-- R40. -/
def Oc.reset : Oc :=
  { unit := .quiet, offer := none, active := none, fast := Quad.zero, delayed := Quad.zero, fastArmed := false
    delayedArmed := false, hold := 0, fastBlocked := false, latestQ := Quad.zero, lastPickup := none, passageRun := 0
    shotSummary := none, eventSummary := EventSummary.empty }

/-- R64; the sequence state before START is the model's (log entry 7). -/
def Seq.reset : Seq :=
  { phase := .lockout, shot := 1, deadTimer := none, waitTimer := none, reclaimTimer := none, eventNumber := 0
    event := none, hotLine := false, reason := none, detail := none, causes := TripCauses.none, hotMark := false
    heldCauses := TripCauses.none, fromReady := false, recloseInFlight := false, sectionalizeCount := 0
    isolateCount := 0 }

/-- R82; contacts and position before START are the model's (log entry 7). -/
def Mech.reset : Mech :=
  { openInput := ⟨true, none⟩, closedInput := ⟨false, none⟩, contactOpen := true, contactClosed := false
    position := .opened, lastClosed := false, operation := .none, heldTrip := false, operationTimer := none
    disagreeTimer := none, tripCoil := false, closeCoil := false
    tripStartQ := none, trips := 0, closes := 0, wear := Phases.zero }

/-- R96; the aux supply level before START is the model's (log entry 7). -/
def Energy.reset : Energy :=
  { aux := .none, auxTimer := none, vtrip := 0, vclose := 0, tripReady := false, closeReady := false, tripFired := 0
    closeFired := 0, tripCharger := .waiting, closeCharger := .waiting
    supplyInput := ⟨false, none⟩, supply := false, expiries := 0 }

/-- R113. -/
def Battery.reset : Battery :=
  { charger := .off, absorbTimer := none, hot := false, cold := false, absorbSet := 28800, floatSet := 27600
    seen := false, held := none, cq := 2160000000, soc := 5000, uncalibrated := true, test := .idle
    intervalTimer := none, retryTimer := none, durationTimer := none, pendingTimer := none, v0 := 0
    last := LastResult.empty, judged := .none, grade := .critical, provisional := true, candidate := none
    absentRun := 0, settleTimer := none, settleCandidate := none, loadHold := 0, mode := .survival }

/-- R134; until the handover receiver power is held off (R189), so the receiver stands in SLEEP (log entry 7). -/
def Radio.reset : Radio :=
  { outbox := [], tx := .idle, backoff := 0, timer := 0, airTicks := 0, onAir := [], frame := [], preamble := 0
    nextSeq := 0, rx := .sleep, search := 0#16, duty := .off, carrier := false, guardTimer := none, jamTimer := 0
    jammed := false, windowSyncs := 0, windowBad := 0, link := .unrated, allowance := 0, hourTimer := none
    heartbeat := none, draws := 0, framesSent := 0, framesAccepted := 0, badFrames := 0, duplicates := 0
    framesRefused := 0, addressConflicts := 0, outboxOverflow := 0, channelJams := 0, windowsClosed := 0 }

/-- R159. -/
def PeerTable.reset : PeerTable :=
  { slots := List.replicate 16 none, tableFull := 0, evictions := 0, payloadsRefused := 0 }

def Coordination.reset : Coordination := { pendingLoss := none, countReset := none, tie := none }

/-- R179. -/
def Tags.reset : Tags :=
  { slots := List.replicate 8 ⟨none, 0⟩, feeder := List.replicate 24 none, unconfirmed := true, overflow := false
    dedupe := [], keyInput := ⟨false, none⟩, openInput := ⟨false, none⟩, closeInput := ⟨false, none⟩
    confirmInput := ⟨false, none⟩, panelGrade := .one, keyOn := false, openPressed := false, closePressed := false
    confirmPressed := false, asksTaken := 0, duplicateAsks := 0, payloadsRefused := 0, recallsIgnored := 0
    recallConflicts := 0 }

def Log.reset : Log := { records := [], written := 0, overwrites := 0 }

/-- R184; the enables before START are the model's (log entry 7). -/
def Alarms.reset : Alarms := { flags := 0#12, enables := 0xFFF#12 }

def Port.reset : Port := { transaction := .idle, errors := 0 }

/-- The machine right after a power-on: start-up in LOAD (R189), every block at its power-on values. -/
def State.reset : State :=
  { pending := [], startUp := some .powerOn, loader := Loader.reset, clock := Clock.reset, meas := Meas.reset
    mail := Mail.reset, oc := Oc.reset, seq := Seq.reset, mech := Mech.reset, gate := none, energy := Energy.reset
    battery := Battery.reset, radio := Radio.reset, peers := PeerTable.reset, coord := Coordination.reset
    tags := Tags.reset, log := Log.reset, alarms := Alarms.reset, port := Port.reset }

/-! ## Updates of one block -/

def State.onLoader (f : Loader → Loader) (s : State) : State := { s with loader := f s.loader }
def State.onClock (f : Clock → Clock) (s : State) : State := { s with clock := f s.clock }
def State.onMeas (f : Meas → Meas) (s : State) : State := { s with meas := f s.meas }
def State.onMail (f : Mail → Mail) (s : State) : State := { s with mail := f s.mail }
def State.onOc (f : Oc → Oc) (s : State) : State := { s with oc := f s.oc }
def State.onSeq (f : Seq → Seq) (s : State) : State := { s with seq := f s.seq }
def State.onMech (f : Mech → Mech) (s : State) : State := { s with mech := f s.mech }
def State.onGate (f : Option Refused → Option Refused) (s : State) : State := { s with gate := f s.gate }
def State.onEnergy (f : Energy → Energy) (s : State) : State := { s with energy := f s.energy }
def State.onBattery (f : Battery → Battery) (s : State) : State := { s with battery := f s.battery }
def State.onRadio (f : Radio → Radio) (s : State) : State := { s with radio := f s.radio }
def State.onPeers (f : PeerTable → PeerTable) (s : State) : State := { s with peers := f s.peers }
def State.onCoord (f : Coordination → Coordination) (s : State) : State := { s with coord := f s.coord }
def State.onTags (f : Tags → Tags) (s : State) : State := { s with tags := f s.tags }
def State.onLog (f : Log → Log) (s : State) : State := { s with log := f s.log }
def State.onAlarms (f : Alarms → Alarms) (s : State) : State := { s with alarms := f s.alarms }
def State.onPort (f : Port → Port) (s : State) : State := { s with port := f s.port }

end Sys2Proof.Machine
end

