-- ==== Sys2Proof/Machine/Ops.lean ====
section
/-! DEFINITION. Operations and readings that several blocks share: settings, time, the reported sequence state, the active
plan, target sides, fixed-size element sets, and the change of sequence state. -/

namespace Sys2Proof.Machine

/-! ## Readings -/

/-- The settings in force. -/
def State.cfg (s : State) : Settings := s.loader.settings

/-- The derived settings in force. -/
def State.derived (s : State) : Derived := s.loader.derived

/-- Control is with the blocks (R189, R193). -/
def State.running (s : State) : Bool := s.startUp.isNone

/-- The time base at its 10 ms resolution: the value of every time stamp (R194, R35). -/
def State.now (s : State) : Nat := s.clock.ms / 10 * 10

/-- The Station Clock seconds. -/
def State.secs (s : State) : Nat := s.clock.seconds

def State.role (s : State) : Role := s.cfg.identity.role

def State.defaulted (s : State) : Bool := s.loader.defaulted

/-- The station trips on its own elements: yes for HEAD and TIE, the configured flag for a MIDPOINT (R42). -/
def State.protective (s : State) : Bool :=
  match s.role with
  | .midpoint => s.cfg.identity.protectiveFlag
  | .head | .tie => true

/-- A running timer that has reached its limit. -/
def due (timer : Option Nat) (limit : Nat) : Bool :=
  match timer with
  | some e => limit ≤ e
  | none => false

/-- A timer that holds its remaining time, run out. -/
def runOut (timer : Option Nat) : Bool := timer = some 0

/-! ## Filtered inputs (R65, R84, R161, R162) -/

/-- A level that has now stood on the input for `held` ms is the one looked at last, without interruption since its filter
started. -/
def Input.standing (level : Bool) (held : Nat) (i : Input) : Bool :=
  i.level = level && i.timer.getD 0 / ticksPerMs ≤ held

/-- The input as a level that now stands there since `held` ms found it: the level looked at last has stood until now, or,
where it has been interrupted since, its filter counts only if it had run out by then. -/
def Input.found (limit : Nat) (level : Bool) (held : Nat) (i : Input) : Input :=
  if i.standing level held then i
  else { i with timer := i.timer.filter fun e => (limit + held) * ticksPerMs ≤ e }

/-- A level looked at on an input whose filtered level is `present`, with the ms for which it has stood there without
interruption: the filter of a level away from `present` stands at those ms, with the part of one that it has counted, and a
level that has returned stops it. -/
def Input.see (level : Bool) (held : Nat) (present : Bool) (i : Input) : Input :=
  { level
    timer :=
      if level = present then none
      else some (if i.standing level held then max (held * ticksPerMs) (i.timer.getD 0) else held * ticksPerMs) }

/-- The new level has held for the filter time, in ms. -/
def Input.ripe (limit : Nat) (i : Input) : Bool := due i.timer (limit * ticksPerMs)

/-- The level looked at last, away from the filtered level `present`, had held for the filter time before the level that now
stands there since `held` ms began to stand; it is taken first. -/
def Input.missed (limit : Nat) (held : Nat) (present : Bool) (i : Input) : Bool :=
  i.level ≠ present && due i.timer ((limit + held) * ticksPerMs)

/-- The filtered level of this moment, `present` so far: the new one once it has held. -/
def Input.filtered (limit : Nat) (present : Bool) (i : Input) : Bool := if i.ripe limit then i.level else present

/-- The filter at rest once its level has been taken. -/
def Input.settle (limit : Nat) (i : Input) : Input := if i.ripe limit then { i with timer := none } else i

/-- An input as START takes it, without a filter delay. -/
def Input.start (level : Bool) : Input := { level, timer := none }

/-- 1/12 ms of a filter under way. -/
def Input.tick (i : Input) : Input := { i with timer := i.timer.map (· + 1) }

/-! ## Shared readings -/

/-- The reported sequence state: while the unit is in HOLD, TIMING reads HOLD (R45). -/
def State.seqState (s : State) : SeqState :=
  match s.seq.phase with
  | .ready => .ready
  | .timing => if s.oc.unit = .hold then .hold else .timing
  | .tripping => .tripping
  | .dead => .dead
  | .rechargeWait => .rechargeWait
  | .reclosing => .reclosing
  | .reclaim => .reclaim
  | .lockout => .lockout
  | .standby => .standby

/-- The closed states of 3.1. -/
def SeqPhase.isClosed : SeqPhase → Bool
  | .ready | .timing | .reclaim => true
  | .tripping | .dead | .rechargeWait | .reclosing | .lockout | .standby => false

/-- The open states of 3.1. -/
def SeqPhase.isOpen : SeqPhase → Bool
  | .dead | .rechargeWait | .lockout | .standby => true
  | .ready | .timing | .tripping | .reclosing | .reclaim => false

/-- A mechanism operation is in flight. -/
def State.operating (s : State) : Bool := s.mech.operation ≠ .none

/-! ## The active plan (R41) -/

/-- The one-shot plans of R41: hot-line mode, a TIE, DEFAULTED operation. -/
def State.oneShot (s : State) : Bool := s.seq.hotLine || s.role = .tie || s.defaulted

/-- N, the number of shots in the active plan. -/
def State.planShots (s : State) : Nat := if s.oneShot then 1 else s.cfg.sequence.shots

/-- The curve of a shot counter in the active plan; above N it is the curve of shot N. -/
def State.planCurve (s : State) (shot : Nat) : Curve :=
  if s.seq.hotLine then .fast
  else if s.role = .tie || s.defaulted then .delayed
  else s.cfg.sequence.curves.getD (min shot s.cfg.sequence.shots - 1) .delayed

/-- The dead time after the trip of a shot of the configured plan. -/
def State.deadTime (s : State) (shot : Nat) : Nat := s.cfg.sequence.deadTimes.getD (shot - 1) 0

/-! ## Element sets -/

def Quad.map {α β : Type} (f : α → β) (x : Quad α) : Quad β := ⟨f x.a, f x.b, f x.c, f x.g⟩

def Quad.zip {α β γ : Type} (f : α → β → γ) (x : Quad α) (y : Quad β) : Quad γ :=
  ⟨f x.a y.a, f x.b y.b, f x.c y.c, f x.g y.g⟩

/-- Some element is in the set. -/
def Quad.any (x : Quad Bool) : Bool := x.a || x.b || x.c || x.g

/-- The union of two element sets. -/
def Quad.union (x y : Quad Bool) : Quad Bool := x.zip (· || ·) y

/-- The pickup threshold T_0 of a table (R17). -/
def pickupThreshold (table : List Nat) : Nat := table.headD 0

/-- One element is picked up: its Q is at least T_0, or its clip mark is set (R20). -/
def pickedUp (table : List Nat) (q : Nat) (clip : Bool) : Bool := pickupThreshold table ≤ q || clip

/-- The picked-up set of a block (R20). -/
def State.pickedSet (s : State) (p : Publication) : Quad Bool where
  a := pickedUp s.derived.phaseFast p.q.a p.clips.a
  b := pickedUp s.derived.phaseFast p.q.b p.clips.b
  c := pickedUp s.derived.phaseFast p.q.c p.clips.c
  g := pickedUp s.derived.groundFast p.q.g p.clips.g

/-! ## Changes of sequence state -/

/-- The sequence state changes; leaving STANDBY ends the tie delay condition (R155). -/
def State.setPhase (p : SeqPhase) (s : State) : State :=
  (s.onSeq fun q => { q with phase := p }).onCoord fun c => { c with tie := if p = .standby then c.tie else none }

/-- Every timer of the Sequence Controller's own stops (R55). -/
def Seq.stopTimers (q : Seq) : Seq := { q with deadTimer := none, waitTimer := none, reclaimTimer := none }

/-- The trip causes, the hot-line mark and the held causes are cleared (R48, R56). -/
def Seq.clearCauses (q : Seq) : Seq :=
  { q with causes := TripCauses.none, hotMark := false, heldCauses := TripCauses.none }

/-- The union of two sets of trip causes. -/
def TripCauses.join (x y : TripCauses) : TripCauses :=
  ⟨x.fault || y.fault, x.manual || y.manual, x.sectionalize || y.sectionalize, x.isolate || y.isolate⟩

end Sys2Proof.Machine
end

