-- ==== Sys2Proof/Machine/Flags.lean ====
section
/-! DEFINITION. The Alarm Unit (10.2): the twelve cause flags and enables, raising, the CAUSE read's pick, and ALERT. -/

namespace Sys2Proof.Machine

/-- The priority of a cause, 1..12 (10.2). -/
def Cause.priority : Cause → Nat
  | .mechanismFault => 1
  | .measurementLost => 2
  | .lockout => 3
  | .tagOverflow => 4
  | .addressConflict => 5
  | .battery => 6
  | .testFailed => 7
  | .channelJammed => 8
  | .linkPoor => 9
  | .peerLost => 10
  | .configDefaulted => 11
  | .wearLimit => 12

/-- The causes in priority order. -/
def Cause.all : List Cause :=
  [.mechanismFault, .measurementLost, .lockout, .tagOverflow, .addressConflict, .battery, .testFailed, .channelJammed,
    .linkPoor, .peerLost, .configDefaulted, .wearLimit]

/-- The word with the one bit p − 1 of a cause of priority p. -/
def Cause.mask (c : Cause) : BitVec 12 := 1#12 <<< (c.priority - 1)

/-- The cause's flag is pending. -/
def Alarms.isPending (a : Alarms) (c : Cause) : Bool := a.flags &&& c.mask ≠ 0

/-- The cause is enabled. -/
def Alarms.isEnabled (a : Alarms) (c : Cause) : Bool := a.enables &&& c.mask ≠ 0

/-- A raise sets the flag pending, enabled or not (R182). -/
def Alarms.raise (a : Alarms) (c : Cause) : Alarms := { a with flags := a.flags ||| c.mask }

/-- One flag cleared (R183). -/
def Alarms.clear (a : Alarms) (c : Cause) : Alarms := { a with flags := a.flags &&& ~~~c.mask }

/-- The pending enabled cause of highest priority (R183). -/
def Alarms.pick (a : Alarms) : Option Cause := Cause.all.find? fun c => a.isPending c && a.isEnabled c

/-- ALERT is driven low while a cause is both pending and enabled (R182). -/
def Alarms.alertLow (a : Alarms) : Bool := a.flags &&& a.enables ≠ 0

/-- A cause raised to the Alarm Unit. -/
def State.raise (c : Cause) (s : State) : State := s.onAlarms fun a => a.raise c

/-- A cause raised when a condition holds. -/
def State.raiseIf (b : Bool) (c : Cause) (s : State) : State := if b then s.raise c else s

end Sys2Proof.Machine
end

