-- ==== Sys2Proof/Machine/Operands.lean ====
section
/-! DEFINITION. The layouts that a bus partner or the radio channel sees, and the codes of chapter 8: the sample set, the
frame header, the STATE, FAULT, ISOLATE, TAG, RECALL, CREW ASK and CREW ANSWER payloads, read and built. -/

namespace Sys2Proof.Machine

/-! ## Codes of chapter 8 -/

def roleCode : Role → Nat
  | .head => 0
  | .midpoint => 1
  | .tie => 2

def Position.code : Position → Nat
  | .opened => 0
  | .closed => 1
  | .disagree => 2
  | .jammed => 3

def Presence.code : Presence → Nat
  | .live => 0
  | .dead => 1
  | .unknown => 2

def LinkGrade.code : LinkGrade → Nat
  | .unrated => 0
  | .good => 1
  | .marginal => 2
  | .poor => 3

def SeqState.code : SeqState → Nat
  | .ready => 0
  | .timing => 1
  | .hold => 2
  | .tripping => 3
  | .dead => 4
  | .rechargeWait => 5
  | .reclosing => 6
  | .reclaim => 7
  | .lockout => 8
  | .standby => 9

def LockoutReason.code : LockoutReason → Nat
  | .fault => 1
  | .hotLine => 2
  | .energy => 3
  | .gate => 4
  | .mechanism => 5
  | .sectionalized => 6
  | .isolated => 7
  | .manual => 8
  | .start => 9
  | .handle => 10

def reasonCode (r : Option LockoutReason) : Nat := (r.map LockoutReason.code).getD 0

def GateReason.code : GateReason → Nat
  | .mechanism => 1
  | .unconfirmed => 2
  | .measurement => 3
  | .tag => 4
  | .tripEnergy => 5
  | .closeEnergy => 6

def gateCode (r : Option GateReason) : Nat := (r.map GateReason.code).getD 0

def BatteryGrade.code : BatteryGrade → Nat
  | .good => 0
  | .fair => 1
  | .low => 2
  | .critical => 3
  | .failed => 4
  | .absent => 5

def PowerMode.code : PowerMode → Nat
  | .full => 0
  | .economy => 1
  | .survival => 2

/-- The heartbeat multiplier of a power mode: 1, 4 or 16 (R132, R139). -/
def PowerMode.factor : PowerMode → Nat
  | .full => 1
  | .economy => 4
  | .survival => 16

def powerModeOfCode : Nat → PowerMode
  | 0 => .full
  | 1 => .economy
  | _ => .survival

/-- Element set as four bits, bit 3 A (8.4, R186). -/
def elementBits (e : Quad Bool) : Nat := flag e.a 8 + flag e.b 4 + flag e.c 2 + flag e.g 1

def elementsOfBits (n : Nat) : Quad Bool := ⟨bitSet n 3, bitSet n 2, bitSet n 1, bitSet n 0⟩

/-! ## Sample set (1.1) -/

/-- The aux group of bytes 11..20. -/
def parseAux (bs : List Byte) : AuxGroup :=
  { vbat := u16At bs 11, ibat := s16At bs 13, vtrip := u16At bs 15, vclose := u16At bs 17, temp := s16At bs 19 }

/-- R1: the transfer is well formed when the marker is 101, its length is 11 bytes with AUX 0 or 21 bytes with AUX 1, and
AUX is 1 only with set count 15. -/
def parseSampleSet (bs : List Byte) : Option SampleSet :=
  let b0 := byteAt bs 0
  let hasAux := bitSet b0 4
  let count := bits b0 0 4
  if bits b0 5 3 = 5 ∧ bs.length = (if hasAux then 21 else 11) ∧ (hasAux → count = 15) then
    some
      { count, ia := s16At bs 1, ib := s16At bs 3, ic := s16At bs 5, vsrc := s16At bs 7, vload := s16At bs 9
        aux := if hasAux then some (parseAux bs) else none }
  else none

/-! ## Frames (7.2) -/

def NoticeKind.code : NoticeKind → Nat
  | .state => 0x51
  | .fault => 0x62
  | .isolate => 0x63
  | .tag => 0x74
  | .recall => 0x75
  | .crewAnswer => 0x87

/-- The kind code of a CREW ASK, never sent by a station. -/
def crewAskCode : Nat := 0x86

/-- The code is one of the kinds table (R120). -/
def knownKind (code : Nat) : Bool := [0x51, 0x62, 0x63, 0x74, 0x75, 0x86, 0x87].contains code

/-- STATE is the one ROUTINE kind (R126). -/
def NoticeKind.urgent : NoticeKind → Bool
  | .state => false
  | .fault | .isolate | .tag | .recall | .crewAnswer => true

/-- The kinds that the survival allowance holds and charges (R131). -/
def NoticeKind.metered : NoticeKind → Bool
  | .state | .tag | .recall => true
  | .fault | .isolate | .crewAnswer => false

/-- The six header bytes (7.2). -/
def frameHeader (kind sender seqNo length flags : Nat) : List Byte :=
  [byte kind] ++ be16 sender ++ [byte seqNo, byte length, byte flags]

/-- Header, payload and CRC of a frame (R115, R117). -/
def frameBytes (kind sender seqNo flags : Nat) (payload : List Byte) : List Byte :=
  let body := frameHeader kind sender seqNo payload.length flags ++ payload
  body ++ be16 (crc16 body).toNat

/-- R117: the CRC over header and payload as received equals the two bytes received. -/
def frameCrcOk (kind : Nat) (f : RxFrame) : Bool :=
  crc16 (frameHeader kind f.sender.toNat f.seqNo.toNat f.payload.length f.flags.toNat ++ f.payload) = f.crc

/-- The RESTARTED flag of a frame, bit 7. -/
def rxRestarted (f : RxFrame) : Bool := f.flags.getLsbD 7

/-- The ECONOMY-HEARD flag of a frame, bit 6. -/
def rxEconomy (f : RxFrame) : Bool := f.flags.getLsbD 6

/-! ## Tag items (9.3) -/

/-- A tag item as its five bytes give it; `scopeCode` 3 makes it refused (R164). -/
structure TagItem where
  number : Nat
  kind : TagKind
  scopeCode : Nat
  grade : Nat
  generation : Nat
  segment : Nat
  crewId : Nat
  deriving DecidableEq, Repr

def TagKind.code : TagKind → Nat
  | .hotLine => 0
  | .holdOpen => 1

def tagKindOfBit (b : Bool) : TagKind := if b then .holdOpen else .hotLine

def Scope.code : Scope → Nat
  | .station => 0
  | .source => 1
  | .load => 2

/-- The scope of a code 0..2; an item with code 3 is refused before its scope is read. -/
def scopeOfCode : Nat → Scope
  | 0 => .station
  | 1 => .source
  | _ => .load

/-- The tag item at a place of a payload. -/
def itemAt (bs : List Byte) (i : Nat) : TagItem :=
  let b := byteAt bs i
  { number := bits b 5 3, kind := tagKindOfBit (bitSet b 4), scopeCode := bits b 2 2, grade := bits b 0 2 + 1
    generation := byteAt bs (i + 1), segment := byteAt bs (i + 2), crewId := u16At bs (i + 3) }

/-- `n` items from a place of a payload. -/
def itemsAt (bs : List Byte) (i : Nat) : Nat → List TagItem
  | 0 => []
  | n + 1 => itemAt bs i :: itemsAt bs (i + 5) n

/-- The five bytes of an item. -/
def TagItem.bytes (t : TagItem) : List Byte :=
  [byte (t.number * 32 + t.kind.code * 16 + t.scopeCode * 4 + (t.grade - 1)), byte t.generation, byte t.segment] ++
    be16 t.crewId

/-- R164 for one item: scope code 3 or a segment above 250 refuses it. -/
def TagItem.ok (t : TagItem) : Bool := t.scopeCode ≠ 3 && t.segment ≤ 250

/-- R164: a list of items is refused for such an item, or for a tag number that another item also holds. -/
def itemsOk : List TagItem → Bool
  | [] => true
  | t :: ts => t.ok && !(ts.any fun u => u.number = t.number) && itemsOk ts

/-! ## Peer payloads (8.4) -/

/-- Role, protective flag and segments of a STATE, FAULT or ISOLATE payload. -/
def payloadIdentity (bs : List Byte) : PeerIdentity :=
  { role := (roleOfCode (bits (byteAt bs 0) 6 2)).getD .head, protective := bitSet (byteAt bs 0) 5
    source := byteAt bs 1, load := byteAt bs 2 }

/-- The role code of a payload is one of the table. -/
def payloadRoleOk (bs : List Byte) : Bool := bits (byteAt bs 0) 6 2 ≤ 2

/-- The tag items of a STATE payload. -/
def stateItems (bs : List Byte) : List TagItem := itemsAt bs 13 (byteAt bs 12)

/-- R142: a STATE is refused for its length, a tag count above 8, a coded field outside its table, a heartbeat interval
outside 10..600, or its tag list (R164). -/
def stateOk (bs : List Byte) : Bool :=
  let n := byteAt bs 12
  13 ≤ bs.length && bs.length = 13 + 5 * n && n ≤ 8 && payloadRoleOk bs && bits (byteAt bs 3) 4 2 ≤ 2 &&
    bits (byteAt bs 3) 2 2 ≤ 2 && byteAt bs 4 ≤ 9 && bits (byteAt bs 5) 4 4 ≤ 10 && bits (byteAt bs 5) 0 4 ≤ 6 &&
    bits (byteAt bs 9) 5 3 ≤ 5 && bits (byteAt bs 9) 3 2 ≤ 2 && 10 ≤ u16At bs 10 && u16At bs 10 ≤ 600 &&
    itemsOk (stateItems bs)

/-- The power mode that a STATE reports. -/
def stateMode (bs : List Byte) : PowerMode := powerModeOfCode (bits (byteAt bs 9) 3 2)

/-- The STATE shows position CLOSED. -/
def stateClosed (bs : List Byte) : Bool := bits (byteAt bs 3) 6 2 = 1

/-- The heartbeat interval of a STATE, s. -/
def stateHeartbeat (bs : List Byte) : Nat := u16At bs 10

/-- R143: a FAULT is refused for its length, role code, shot, highest point index or no elements. -/
def faultOk (bs : List Byte) : Bool :=
  bs.length = 7 && payloadRoleOk bs && 1 ≤ byteAt bs 5 && byteAt bs 5 ≤ 4 && byteAt bs 6 ≤ 15 &&
    bits (byteAt bs 0) 0 4 ≠ 0

/-- The fault report of a FAULT payload heard at a time (R143). -/
def faultReportOf (bs : List Byte) (heard : Nat) : FaultReport :=
  { event := u16At bs 3, elements := elementsOfBits (bits (byteAt bs 0) 0 4), highest := byteAt bs 6
    shot := byteAt bs 5, clipped := bitSet (byteAt bs 0) 4, heard }

/-- R144: an ISOLATE is refused for its length, role code, faulted segment 0, or a segment field above 250. DESIGN CHOICE
(log entry 40): the two segment fields meant are the faulted and the cut-off segment. -/
def isolateOk (bs : List Byte) : Bool :=
  bs.length = 7 && payloadRoleOk bs && byteAt bs 5 ≠ 0 && byteAt bs 5 ≤ 250 && byteAt bs 6 ≤ 250

/-- The isolation report of an ISOLATE payload heard at a time (R144). -/
def isolationReportOf (bs : List Byte) (heard : Nat) : IsolationReport :=
  { event := u16At bs 3, isolated := bitSet (byteAt bs 0) 4, faulted := byteAt bs 5, cutOff := byteAt bs 6, heard
    superseded := false }

/-! ## Payloads that this station sends -/

/-- The segment that a scope names at this station (R160). -/
def State.scopeSegment (s : State) : Scope → Nat
  | .station => 0
  | .source => s.cfg.identity.sourceSegment
  | .load => s.cfg.identity.loadSegment

/-- A local tag as an item (R164). -/
def State.localItem (s : State) (number : Nat) (t : LocalTag) : TagItem :=
  { number, kind := t.kind, scopeCode := t.scope.code, grade := t.grade, generation := t.generation
    segment := s.scopeSegment t.scope, crewId := t.crewId }

/-- The items of the present tags of a run of slots whose first has the given number. -/
def State.slotItems (s : State) (number : Nat) : List LocalSlot → List TagItem
  | [] => []
  | slot :: rest =>
    match slot.tag with
    | some t => s.localItem number t :: s.slotItems (number + 1) rest
    | none => s.slotItems (number + 1) rest

/-- The present local tags in ascending order of tag number (R164). -/
def State.localItems (s : State) : List TagItem := s.slotItems 0 s.tags.slots

/-- Byte 0 of a STATE, FAULT or ISOLATE: role and protective flag, with the low five bits given. -/
def State.identityByte (s : State) (low : Nat) : Byte := byte (roleCode s.role * 64 + flag s.protective 32 + low)

/-- Bytes 0 to 2 of a STATE, FAULT or ISOLATE payload. -/
def State.identityBytes (s : State) (low : Nat) : List Byte :=
  [s.identityByte low, byte s.cfg.identity.sourceSegment, byte s.cfg.identity.loadSegment]

/-- The STATE payload, its contents read from their owners (R141). -/
def State.statePayload (s : State) : List Byte :=
  let items := s.localItems
  s.identityBytes (flag s.seq.hotLine 16 + flag s.oc.fastBlocked 8) ++
    [byte (s.mech.position.code * 64 + s.meas.src.presence.code * 16 + s.meas.load.presence.code * 4 +
        s.radio.link.code),
      byte s.seqState.code, byte (reasonCode s.seq.reason * 16 + gateCode s.seq.detail), byte s.seq.shot] ++
    be16 s.seq.eventNumber ++ [byte (s.battery.grade.code * 32 + s.battery.mode.code * 8)] ++
    be16 s.cfg.radio.heartbeat ++ [byte items.length] ++ (items.map TagItem.bytes).flatten

/-- The FAULT payload of a passage indication (R147). -/
def State.faultPayload (s : State) (p : ShotSummary) : List Byte :=
  s.identityBytes (flag p.clipped 16 + elementBits p.elements) ++ be16 s.seq.eventNumber ++ [byte p.shot, byte p.highest]

/-- The ISOLATE payload of a completed trip (table of R153): `isolated` is the cause. -/
def State.isolatePayload (s : State) (isolated : Bool) : List Byte :=
  let faulted := if isolated then s.cfg.identity.sourceSegment else s.cfg.identity.loadSegment
  let cutOff := if isolated then s.cfg.identity.loadSegment else 0
  s.identityBytes (flag isolated 16) ++ be16 s.seq.eventNumber ++ [byte faulted, byte cutOff]

/-- The TAG payload (9.7): action 0 PLACED, 1 REMOVED. -/
def tagPayload (removed : Bool) (item : TagItem) : List Byte := byte (flag removed 128) :: item.bytes

/-- The RECALL payload (9.9). -/
def recallPayload (target : Nat) (items : List TagItem) : List Byte :=
  be16 target ++ [byte items.length] ++ (items.map TagItem.bytes).flatten

/-! ## Crew asks and answers (9.5) -/

/-- The ask kinds (9.5). -/
inductive AskKind where
  | place | remove | clearOrphan | confirm | openAsk | closeAsk | status
  deriving DecidableEq, Repr

def AskKind.code : AskKind → Nat
  | .place => 0
  | .remove => 1
  | .clearOrphan => 2
  | .confirm => 3
  | .openAsk => 4
  | .closeAsk => 5
  | .status => 6

def askKindOfCode : Nat → Option AskKind
  | 0 => some .place
  | 1 => some .remove
  | 2 => some .clearOrphan
  | 3 => some .confirm
  | 4 => some .openAsk
  | 5 => some .closeAsk
  | 6 => some .status
  | _ => none

/-- The seven-byte CREW ASK payload of an ask. -/
def askPayload (kind : AskKind) (a : AskFrame) : List Byte :=
  be16 a.target.toNat ++ be16 a.crewId.toNat ++ [byte kind.code, a.grade, a.operand]

/-- The CREW ASK frame of an ask. -/
def askRx (kind : AskKind) (a : AskFrame) : RxFrame :=
  { sender := a.sender, seqNo := a.seqNo, flags := a.flags, payload := askPayload kind a, crc := a.crc }

/-- Result codes of a CREW ANSWER (9.5). -/
inductive AskResult where
  | accepted | badAsk | notCrew | grade | badSelector | noTag | notHolder | panelHeld | notOrphan | notOpen | tableFull
  | gate | wrongState | unconfirmed
  deriving DecidableEq, Repr

def AskResult.code : AskResult → Nat
  | .accepted => 0
  | .badAsk => 1
  | .notCrew => 2
  | .grade => 3
  | .badSelector => 4
  | .noTag => 5
  | .notHolder => 6
  | .panelHeld => 7
  | .notOrphan => 8
  | .notOpen => 9
  | .tableFull => 10
  | .gate => 11
  | .wrongState => 12
  | .unconfirmed => 13

/-- What an ask handler answers: result, selector, detail and the last byte (9.5). -/
structure AskAnswer where
  result : AskResult
  selector : Nat
  detail : Nat
  last : Nat
  deriving DecidableEq, Repr

/-- An answer that carries a result and a selector only. -/
def AskAnswer.plain (result : AskResult) (selector : Nat) : AskAnswer := ⟨result, selector, 0, 0⟩

/-- The eight-byte CREW ANSWER payload. -/
def answerPayload (handset seqNo kindCode : Nat) (a : AskAnswer) : List Byte :=
  be16 handset ++ [byte seqNo, byte (kindCode * 16), byte a.result.code, byte a.selector, byte a.detail, byte a.last]

end Sys2Proof.Machine
end

