-- ==== Sys2Proof/Machine/RadioLine.lean ====
section
/-! DEFINITION. The Radio Line Controller's operations (chapter 7): carrier and receiver power, the link window, the
outbox, the transmit attempt, the duty cycle, and what a change of power mode does to them. -/

namespace Sys2Proof.Machine

/-! ## Carrier, TX key and receiver power (R114, R128, R130) -/

/-- TX key is on from the entry to KEYUP to the end of TAIL (R114). -/
def Radio.txKey (r : Radio) : Bool :=
  match r.tx with
  | .keyup | .sending | .tail => true
  | .idle | .defer | .backoff | .spacing => false

/-- Receiver power: on in LISTEN and FRAME, off in SLEEP (R114). -/
def Radio.powered (r : Radio) : Bool := r.rx ≠ .sleep

/-- RX data and carrier detect are looked at (R114). -/
def Radio.hears (r : Radio) : Bool := r.powered && !r.txKey

/-- R128: the channel is clear once carrier has been absent for the guard time, which equals the slot time. -/
def State.channelClear (s : State) : Bool := s.radio.hears && due s.radio.guardTimer s.cfg.radio.slot

/-- Carrier detect begins to be looked at, at a power-on of the receiver or when TX key goes off: an absent carrier
starts the guard time (R128), restarts the jam timer and clears CHANNEL JAMMED (R130). DESIGN CHOICE (log entry 50):
when TX key goes off the guard time counts anew from 0, as R128 says for a power-on alone. -/
def Radio.lookAtCarrier (r : Radio) : Radio :=
  if r.carrier then { r with guardTimer := none }
  else { r with guardTimer := some 0, jamTimer := 0, jammed := false }

/-- The receiver is powered from SLEEP into LISTEN; guard time and jam timer start from 0 (R128, R130). -/
def Radio.powerUp (r : Radio) : Radio :=
  if r.powered then r else Radio.lookAtCarrier { r with rx := .listen, jamTimer := 0 }

/-- The receiver is put to sleep for the sleep window (R124, R130). -/
def Radio.fallAsleep (r : Radio) : Radio :=
  { r with rx := .sleep, duty := .sleeping 0, guardTimer := none, jamTimer := 0 }

/-! ## Receiving and link quality (R118, R119, R123) -/

/-- The listen window of the duty cycle has run out (R124). -/
def State.windowRunOut (s : State) : Bool :=
  match s.radio.duty with
  | .ranOut => true
  | .listening e => s.cfg.radio.listen ≤ e
  | .off | .sleeping _ => false

/-- The frame in hand ends: back to LISTEN, or to SLEEP when the listen window ran out meanwhile (R118, R124). -/
def State.endFrame (s : State) : State :=
  let out := s.windowRunOut
  s.onRadio fun r => if out then r.fallAsleep else { r with rx := .listen }

/-- The bands of R123. -/
def gradeOfBad (bad : Nat) : LinkGrade := if bad ≤ 2 then .good else if bad ≤ 8 then .marginal else .poor

/-- R123: a window closes when the frame begun by its 32nd detection has been resolved. -/
def State.closeWindow (s : State) : State :=
  if windowDetections ≤ s.radio.windowSyncs then
    let grade := gradeOfBad s.radio.windowBad
    let entered := grade = .poor && s.radio.link ≠ .poor
    (s.onRadio fun r =>
      { r with
        link := grade, windowSyncs := 0, windowBad := 0, windowsClosed := (r.windowsClosed + 1) % 256 }).raiseIf
      entered .linkPoor
  else s

/-- R119: a bad frame is counted, reported to link quality and gone. -/
def State.takeBadFrame (s : State) : State :=
  (s.endFrame.onRadio fun r => { r with badFrames := sat16 r.badFrames, windowBad := r.windowBad + 1 }).closeWindow

/-! ## The outbox (R125 to R127) -/

/-- Transmissions per notice (kinds table). -/
def State.transmissions (s : State) (kind : NoticeKind) : Nat :=
  match kind with
  | .fault | .isolate => s.cfg.radio.repeats
  | .state | .tag | .recall | .crewAnswer => 1

def State.newNotice (s : State) (kind : NoticeKind) (payload : List Byte) : Notice :=
  { kind, payload, made := 0, total := s.transmissions kind, seqNo := none, replaced := false, attempted := false }

/-- The notice is between KEYUP and the end of TAIL. -/
def Radio.isOnAir (r : Radio) (n : Notice) : Bool := n.attempted && r.txKey

/-- Outbox order: URGENT before ROUTINE, and each class in order of joining (R125). -/
def insertNotice (n : Notice) : List Notice → List Notice
  | [] => [n]
  | m :: ms => if n.kind.urgent && !m.kind.urgent then n :: m :: ms else m :: insertNotice n ms

/-- Removes the first notice that a test picks. -/
def removeFirst (p : Notice → Bool) : List Notice → List Notice
  | [] => []
  | m :: ms => if p m then ms else m :: removeFirst p ms

/-- R125: a queued STATE takes the new contents in place, with the replaced mark while it is on the air. -/
def Radio.replaceState (r : Radio) (payload : List Byte) : Radio :=
  { r with
    outbox := r.outbox.map fun n =>
      if n.kind = .state then { n with payload := payload, replaced := n.replaced || r.isOnAir n } else n }

/-- A ROUTINE notice that an URGENT one may evict: not on the air (R126). -/
def Radio.evictable (r : Radio) (n : Notice) : Bool := !n.kind.urgent && !r.isOnAir n

/-- A notice offered to the outbox (R125, R126). In DEFAULTED operation it is not taken and not counted. -/
def State.offerNotice (kind : NoticeKind) (payload : List Byte) (s : State) : State :=
  if s.defaulted then s
  else if kind = .state && s.radio.outbox.any (·.kind = .state) then s.onRadio fun r => r.replaceState payload
  else
    let n := s.newNotice kind payload
    s.onRadio fun r =>
      if r.outbox.length < outboxCapacity then { r with outbox := insertNotice n r.outbox }
      else if kind.urgent && r.outbox.any r.evictable then
        { r with outbox := insertNotice n (removeFirst r.evictable r.outbox) }
      else { r with outboxOverflow := sat16 r.outboxOverflow }

/-- A STATE offered with the contents of this moment (R132, R141). -/
def State.offerState (s : State) : State := s.offerNotice .state s.statePayload

/-! ## The attempt (R128, R130, R131) -/

/-- R128: a notice may go unless it is ROUTINE while CHANNEL JAMMED is set, or held by the survival allowance. -/
def State.mayGo (s : State) (n : Notice) : Bool :=
  !(s.radio.jammed && !n.kind.urgent) && !(s.battery.mode = .survival && n.kind.metered && s.radio.allowance = 0)

/-- The first notice in outbox order that may go. -/
def State.candidate (s : State) : Option Notice := s.radio.outbox.find? s.mayGo

/-- The notice of the attempt or service in hand. -/
def Radio.current (r : Radio) : Option Notice := r.outbox.find? (·.attempted)

/-- A notice is in service from its first KEYUP until it leaves the outbox (R128). -/
def Radio.inService (r : Radio) : Bool := r.outbox.any fun n => n.attempted && n.seqNo.isSome

/-- Marks the first notice that a test picks as the attempted one, and no other. -/
def markFirst (p : Notice → Bool) : List Notice → List Notice
  | [] => []
  | n :: ns =>
    if p n then { n with attempted := true } :: ns.map fun m => { m with attempted := false }
    else { n with attempted := false } :: markFirst p ns

/-- R128: base plus draw by class; the draw is a free value (log entry 3). -/
def backoffOf (urgent : Bool) (draw : Nat) : Nat :=
  if urgent then (Config.backoffDraw draw).toNat % 4 else 8 + (Config.backoffDraw draw).toNat

/-- DEFER is entered; it goes on to BACKOFF at once on a clear channel, or for an URGENT notice while CHANNEL JAMMED is
set (R128, R130). The receiver is powered, the transmitter being away from IDLE (R124). -/
def State.enterDefer (urgent : Bool) (s : State) : State :=
  let s1 := s.onRadio fun r => { Radio.powerUp r with tx := .defer, duty := .off }
  if s1.channelClear || (s1.radio.jammed && urgent) then s1.onRadio fun r => { r with tx := .backoff, timer := 0 }
  else s1

/-- A backoff count is drawn for a class and DEFER is entered. -/
def State.startBackoff (urgent : Bool) (s : State) : State :=
  (s.onRadio fun r => { r with backoff := backoffOf urgent r.draws, draws := r.draws + 1 }).enterDefer urgent

/-- R128: an attempt starts for the candidate. -/
def State.startAttempt (n : Notice) (s : State) : State :=
  (s.onRadio fun r => { r with outbox := markFirst s.mayGo r.outbox }).startBackoff n.kind.urgent

/-- No notice may go: the transmitter returns to IDLE. -/
def Radio.goIdle (r : Radio) : Radio :=
  { r with tx := .idle, backoff := 0, outbox := r.outbox.map fun m => { m with attempted := false } }

/-- R128: before a first KEYUP the attempt follows the candidate; in IDLE a candidate starts an attempt. -/
def State.reviewAttempt (s : State) : State :=
  match s.radio.tx with
  | .idle | .defer | .backoff =>
    if s.radio.tx ≠ .idle && s.radio.inService then s
    else
      match s.candidate with
      | none => s.onRadio Radio.goIdle
      | some n => if s.radio.tx ≠ .idle && n.attempted then s else s.startAttempt n
  | .keyup | .sending | .tail | .spacing => s

/-- R124: away from IDLE, or in FULL, the receiver is powered and does not cycle; otherwise a cycle that is not running
starts with a listen window, once a frame in hand has finished (log entry 33). -/
def State.settleReceiver (s : State) : State :=
  if s.radio.tx ≠ .idle || s.battery.mode = .full then s.onRadio fun r => { Radio.powerUp r with duty := .off }
  else if s.radio.duty = .off && s.radio.rx ≠ .frame then
    s.onRadio fun r => { Radio.powerUp r with duty := .listening 0 }
  else s

/-! ## Power mode (R111, R124, R131, R132) -/

/-- The heartbeat limit, ms (R132). -/
def State.heartbeatLimit (s : State) : Nat := s.cfg.radio.heartbeat * 1000 * s.battery.mode.factor

/-- The heartbeat timer restarts from 0 where it runs. -/
def Radio.restartHeartbeat (r : Radio) : Radio := { r with heartbeat := r.heartbeat.map fun _ => 0 }

/-- A change of power mode: the receiver is powered and its cycle starts afresh, SURVIVAL is entered with a full
allowance or left with the hour timer stopped, and an elapsed heartbeat time at or beyond the new limit expires at once;
its STATE is offered with the one that the mode change itself triggers (R132, `State.expiresAtMode`). -/
def State.radioModeChanged (s : State) : State :=
  let full := s.cfg.radio.allowance
  let survival := s.battery.mode = .survival
  let expired := due s.radio.heartbeat s.heartbeatLimit
  s.onRadio fun r =>
    let r1 := { Radio.powerUp r with duty := .off }
    let r2 := if survival then { r1 with allowance := full, hourTimer := some 0 } else { r1 with hourTimer := none }
    if expired then r2.restartHeartbeat else r2

end Sys2Proof.Machine
end

