-- ==== Sys2Proof/Machine/Commit.lean ====
section
/-! DEFINITION. How a command ends: each STATE trigger of R132 that fell in it offers one STATE, after the command's other
notices and with the contents of its end (log entry 8), and the transmitter and receiver follow (R124, R128). -/

namespace Sys2Proof.Machine

/-- A local tag stands in slot `n`. -/
def State.holdsTag (s : State) (n : Nat) : Bool := (s.tags.slots[n]?.bind LocalSlot.tag).isSome

/-- R132: the power mode has changed and the elapsed heartbeat time is at or beyond the new limit. -/
def State.expiresAtMode (before after : State) : Bool :=
  before.battery.mode ≠ after.battery.mode && due before.radio.heartbeat after.heartbeatLimit

/-- The STATE triggers of R132 that the states before and after a command show, with the heartbeat expiry of a mode change:
one for each block's report of a change (R62, R66, R111, R171), and one for each slot filled or emptied (R177). -/
def State.triggersTo (before after : State) : Nat :=
  [decide (before.mech.position ≠ after.mech.position), decide (before.seqState ≠ after.seqState),
      decide (before.seq.reason ≠ after.seq.reason), decide (before.seq.hotLine ≠ after.seq.hotLine),
      decide (before.meas.src.presence ≠ after.meas.src.presence),
      decide (before.meas.load.presence ≠ after.meas.load.presence),
      decide (before.battery.grade ≠ after.battery.grade ∨ before.battery.mode ≠ after.battery.mode),
      decide (before.tags.unconfirmed ≠ after.tags.unconfirmed), before.expiresAtMode after].count true +
    (List.range 8).countP fun n => before.holdsTag n ≠ after.holdsTag n

/-- A STATE offered for each of `n` triggers (R125, R126, R132). -/
def State.offerStates (n : Nat) (s : State) : State :=
  match n with
  | 0 => s
  | k + 1 => s.offerState.offerStates k

/-- The end of a command that took `before` to `after`: each trigger that fell offers a STATE (`forced` for the trigger that
no field shows: a heartbeat, a restart heard), then the attempt and the receiver follow. -/
def finish (forced : Bool) (before after : State) : State :=
  ((after.offerStates (before.triggersTo after + if forced then 1 else 0)).reviewAttempt).settleReceiver

/-- A command of the running machine; during start-up it is not taken (R189). -/
def act (body : State → State) (s : State) : Host.Outcome State Fault Refusal :=
  .next (if s.running then finish false s (body s) else s)

/-- A command that finds an event of its input still to be taken (log entry 9): `first`, with a command's end of its own, and
then `second`. -/
def actAfter (earlier : Bool) (first second : State → State) (s : State) : Host.Outcome State Fault Refusal :=
  .next
    (if s.running then
      let before := if earlier then finish false s (first s) else s
      finish false before (second before)
    else s)

/-- A command whose body also says whether a trigger fell that no field shows. -/
def actForced (body : State → State × Bool) (s : State) : Host.Outcome State Fault Refusal :=
  .next (if s.running then finish (body s).2 s (body s).1 else s)

/-- A command that has its effect only under a condition, and none without it (log entry 2). -/
def when (condition : Bool) (effect : State → State) (s : State) : State := if condition then effect s else s

end Sys2Proof.Machine
end

