-- ==== Sys2Proof/Machine/Energy.lean ====
section
/-! DEFINITION. The Energy Monitor (chapter 5): energy conditions, readiness, the capacitor chargers, and the commands
AUX_UPDATE and AUX_TIMEOUT. -/

namespace Sys2Proof.Machine

/-! ## Energy conditions and forced states (R85, R89) -/

/-- Energy present (R85). -/
def State.energyPresent (s : State) : Bool := s.energy.supply || s.battery.grade ≠ .absent

/-- The grades of the close hold-off (R85) and of power mode SURVIVAL (R111). -/
def BatteryGrade.spent : BatteryGrade → Bool
  | .critical | .failed | .absent => true
  | .good | .fair | .low => false

/-- Close hold-off (R85). -/
def State.closeHoldOff (s : State) : Bool := !s.energy.supply && s.battery.grade.spent

/-- The first forced state of the trip charger's column whose condition holds (R89). -/
def State.tripForced (s : State) : Option CapCharger :=
  if s.mech.tripCoil then some .firing
  else if !s.energyPresent then some .unpowered
  else if s.energy.aux ≠ .valid then some .waiting
  else none

/-- The first forced state of the close charger's column whose condition holds (R89). -/
def State.closeForced (s : State) : Option CapCharger :=
  if s.mech.closeCoil then some .firing
  else if s.closeHoldOff then some .heldOff
  else if s.energy.aux ≠ .valid then some .waiting
  else none

/-- FIRING, UNPOWERED, HELD OFF and WAITING (R89). -/
def CapCharger.forced : CapCharger → Bool
  | .firing | .unpowered | .heldOff | .waiting => true
  | .charging | .idle => false

/-- R91: a charger released from its forced states. -/
def releasedCharger (fired value full : Nat) : CapCharger := if 0 < fired || value < full then .charging else .idle

/-- R89: the charger state decided again. -/
def decideCharger (forced : Option CapCharger) (present : CapCharger) (fired value full : Nat) : CapCharger :=
  match forced with
  | some f => f
  | none => if present.forced then releasedCharger fired value full else present

/-- Both charger states decided again (R89). -/
def State.decideCapChargers (s : State) : State :=
  let trip := decideCharger s.tripForced s.energy.tripCharger s.energy.tripFired s.energy.vtrip s.cfg.energy.tripFull
  let close :=
    decideCharger s.closeForced s.energy.closeCharger s.energy.closeFired s.energy.vclose s.cfg.energy.closeFull
  s.onEnergy fun e => { e with tripCharger := trip, closeCharger := close }

/-! ## Firing (R87) -/

/-- The trip coil is driven: TRIP READY cleared, post-fire count 2. -/
def Energy.fireTrip (e : Energy) : Energy := { e with tripReady := false, tripFired := 2 }

/-- The close coil is driven: CLOSE READY cleared, post-fire count 2. -/
def Energy.fireClose (e : Energy) : Energy := { e with closeReady := false, closeFired := 2 }

/-! ## Aux updates (R83, R86, R90) -/

/-- R83, R86: new working values, VALID, the aux timer from 0, the post-fire counts stepped down and the flags set. -/
def Energy.takeUpdate (settings : EnergySettings) (g : AuxGroup) (e : Energy) : Energy :=
  { e with
    aux := .valid, auxTimer := some 0, vtrip := g.vtrip, vclose := g.vclose, tripFired := e.tripFired - 1
    closeFired := e.closeFired - 1, tripReady := e.tripFired - 1 = 0 && settings.tripReady ≤ g.vtrip
    closeReady := e.closeFired - 1 = 0 && settings.closeReady ≤ g.vclose }

/-- R90: the hysteresis of a charger that was not forced. -/
def CapCharger.hysteresis (fired value low full : Nat) : CapCharger → CapCharger
  | .idle => if value < low then .charging else .idle
  | .charging => if full ≤ value && fired = 0 then .idle else .charging
  | .firing => .firing
  | .unpowered => .unpowered
  | .heldOff => .heldOff
  | .waiting => .waiting

/-- R90: only a charger that was in IDLE or CHARGING before the update follows the hysteresis at it. -/
def Energy.followMarks (settings : EnergySettings) (tripWas closeWas : CapCharger) (e : Energy) : Energy :=
  { e with
    tripCharger :=
      if tripWas.forced then e.tripCharger
      else e.tripCharger.hysteresis e.tripFired e.vtrip settings.tripLow settings.tripFull
    closeCharger :=
      if closeWas.forced then e.closeCharger
      else e.closeCharger.hysteresis e.closeFired e.vclose settings.closeLow settings.closeFull }

/-- The Energy Monitor takes an aux update with its group. -/
def State.takeAuxGroup (g : AuxGroup) (s : State) : State :=
  (s.onEnergy (Energy.takeUpdate s.cfg.energy g)).decideCapChargers.onEnergy
    (Energy.followMarks s.cfg.energy s.energy.tripCharger s.energy.closeCharger)

/-- The next publication waiting for the Energy Monitor is taken; only those with NEW set are aux updates (R83). -/
def State.auxUpdate (s : State) : State :=
  match s.mail.energy with
  | [] => s
  | p :: rest =>
    let s1 := s.onMail fun m => { m with energy := rest }
    match p.auxNew, p.aux with
    | true, some g => s1.takeAuxGroup g
    | _, _ => s1

/-- AUX_UPDATE (R83). -/
def execAuxUpdate (s : State) : Host.Outcome State Fault Refusal := act State.auxUpdate s

/-- The aux state becomes EXPIRED (R83). -/
def State.auxExpire (s : State) : State :=
  (s.onEnergy fun e =>
    { e with
      aux := .expired, auxTimer := none, tripReady := false, closeReady := false
      expiries := sat16 e.expiries }).decideCapChargers

/-- AUX_TIMEOUT (R83): only once the aux timer has reached the aux timeout (log entry 2). -/
def execAuxTimeout (s : State) : Host.Outcome State Fault Refusal :=
  act (when (s.energy.aux = .valid && due s.energy.auxTimer auxTimeoutLimit) State.auxExpire) s

end Sys2Proof.Machine
end

