-- ==== Sys2Proof/Machine/Battery.lean ====
section
/-! DEFINITION. The Battery Manager (chapter 6): charger states, charge counting, the load test, grades and power mode,
with their commands, and the aux supply change that the Energy Monitor reports to it. -/

namespace Sys2Proof.Machine

/-! ## Charger (R97 to R100) -/

/-- TEST, OFF, FAULT, HOT and COLD are the forced states (R97). -/
def BatteryCharger.forced : BatteryCharger → Bool
  | .test | .off | .fault | .hot | .cold => true
  | .bulk | .absorb | .float => false

/-- The first forced state whose condition holds; OFF until the first aux update after a reset (R97). -/
def State.batteryForced (s : State) : Option BatteryCharger :=
  if !s.battery.seen then some .off
  else if s.battery.test = .running then some .test
  else if !s.energy.supply then some .off
  else if s.battery.grade = .absent || s.battery.grade = .failed then some .fault
  else if s.battery.hot then some .hot
  else if s.battery.cold then some .cold
  else none

/-- The charger state decided again: a charger leaving a forced state enters BULK (R99), and leaving ABSORB discards the
absorb timer (R98). -/
def State.decideBatteryCharger (s : State) : State :=
  let charger :=
    match s.batteryForced with
    | some f => f
    | none => if s.battery.charger.forced then .bulk else s.battery.charger
  s.onBattery fun b => { b with charger, absorbTimer := if charger = .absorb then b.absorbTimer else none }

/-- The charger command (R97): voltage limit in mV and current limit in mA, or off. -/
def State.chargerCommand (s : State) : Option (Nat × Nat) :=
  let limit := s.cfg.battery.currentLimit
  match s.battery.charger with
  | .test | .off | .hot => none
  | .fault => if s.battery.grade = .failed then some (s.battery.floatSet.toNat, limit) else none
  | .cold => some (s.battery.absorbSet.toNat, limit / 4)
  | .bulk | .absorb => some (s.battery.absorbSet.toNat, limit)
  | .float => some (s.battery.floatSet.toNat, limit)

/-- R100: one setpoint. -/
def setpoint (nominal k vmin vmax : Nat) (temp : Int) : Int :=
  max (vmin : Int) (min (vmax : Int) ((nominal : Int) - ((k : Int) * (temp - 250)).tdiv 10))

/-- R99, R100: temperature conditions and setpoints at an aux update. -/
def Battery.takeTemperature (settings : BatterySettings) (temp : Int) (b : Battery) : Battery :=
  { b with
    hot := 550 < temp || (b.hot && 500 < temp), cold := temp < -200 || (b.cold && temp < -150)
    absorbSet := setpoint settings.absorbNominal settings.coefficient settings.vmin settings.vmax temp
    floatSet := setpoint settings.floatNominal settings.coefficient settings.vmin settings.vmax temp }

/-! ## Charge counting (R101, R102) -/

/-- SOC of a charge count. -/
def socOf (cq cfull : Nat) : Nat := cq * 10000 / cfull

/-- R101: Cq moved by the held Ibat and clamped into 0..Cfull. -/
def movedCharge (efficiency cfull cq : Nat) (ibat : Int) : Nat :=
  let moved : Int := if 0 < ibat then (cq : Int) + ibat * (efficiency : Int) / 256 else (cq : Int) + ibat
  min moved.toNat cfull

def State.countCharge (g : AuxGroup) (s : State) : State :=
  let cq := movedCharge s.cfg.battery.efficiency s.derived.cfull s.battery.cq g.ibat
  let soc := socOf cq s.derived.cfull
  s.onBattery fun b => { b with cq, soc }

/-- R102: entry to FLOAT by taper ties Cq to a full battery. -/
def State.calibrate (s : State) : State :=
  let cfull := s.derived.cfull
  s.onBattery fun b => { b with cq := cfull, soc := 10000, uncalibrated := false }

/-- R98: one move of the charge cycle at an aux update, by the setpoints then kept (log entry 54: those of the same update). -/
def State.chargeCycle (g : AuxGroup) (s : State) : State :=
  match s.battery.charger with
  | .bulk =>
    if s.battery.absorbSet ≤ (g.vbat : Int) then
      s.onBattery fun b => { b with charger := .absorb, absorbTimer := some 0 }
    else s
  | .absorb =>
    if g.ibat < (s.cfg.battery.taper : Int) then
      (s.onBattery fun b => { b with charger := .float, absorbTimer := none }).calibrate
    else s
  | .float => if g.vbat < s.cfg.battery.rebulk then s.onBattery fun b => { b with charger := .bulk } else s
  | .test | .off | .fault | .hot | .cold => s

/-- The charger's part of an aux update: temperature and setpoints, the state decided again, and one move of the cycle
for a charger that was in a cycle state when the publication was taken (`wasForced` clear). DESIGN CHOICE (log entry 54):
the temperature and the setpoints are taken first, and BULK becomes ABSORB by the absorb setpoint of the same aux update
(R98, R100). -/
def State.chargerUpdate (wasForced : Bool) (g : AuxGroup) (s : State) : State :=
  let decided :=
    (s.onBattery fun b => { b.takeTemperature s.cfg.battery g.temp with seen := true }).decideBatteryCharger
  if wasForced then decided else decided.chargeCycle g

/-! ## Grades and power mode (R108 to R111) -/

/-- R111. -/
def modeFor (supply : Bool) (grade : BatteryGrade) : PowerMode :=
  if supply then .full
  else
    match grade with
    | .good | .fair => .full
    | .low => .economy
    | .critical | .failed | .absent => .survival

/-- The power mode worked out again; a change is reported to the Radio Line Controller (R111). -/
def State.decideMode (s : State) : State :=
  let mode := modeFor s.energy.supply s.battery.grade
  if mode = s.battery.mode then s else (s.onBattery fun b => { b with mode }).radioModeChanged

/-- A grade is worse than another (chapter 8 codes rise from best to worst). -/
def BatteryGrade.worse (x y : BatteryGrade) : Bool := y.code < x.code

/-- R102, R110: entry to ABSENT unties Cq and clears the judged result. DESIGN CHOICE (log entry 47): SOC is worked again from
the new Cq at that moment. -/
def State.enterAbsent (s : State) : State :=
  let cq := s.derived.cfull / 2
  let soc := socOf cq s.derived.cfull
  s.onBattery fun b => { b with uncalibrated := true, cq, soc, judged := .none }

/-- R110: the grade in effect changes; `quiet` is the first grade after start, which raises no BATTERY. -/
def State.setGrade (quiet : Bool) (g : BatteryGrade) (s : State) : State :=
  if g = s.battery.grade then s
  else
    let s1 := s.onBattery fun b => { b with grade := g }
    let s2 := if g = .absent then s1.enterAbsent else s1
    (s2.raiseIf (g.worse s.battery.grade && !quiet) .battery).decideCapChargers.decideBatteryCharger.decideMode

/-- The settle timer stops and its candidate is discarded (R109). -/
def Battery.stopSettle (b : Battery) : Battery := { b with settleTimer := none, settleCandidate := none }

/-- R108, for an ABSENT run and the values of a publication. -/
def candidateGrade (settings : BatterySettings) (b : Battery) (vbat : Nat) : BatteryGrade :=
  if b.absentRun = 3 then .absent
  else if b.judged = .failed then .failed
  else if vbat < settings.critical || (!b.uncalibrated && b.soc < 1000) then .critical
  else if (if b.uncalibrated then vbat < settings.lowBand else b.soc < 3000) then .low
  else if (if b.uncalibrated then vbat < settings.fairBand else b.soc < 7000) || b.judged = .marginal then .fair
  else .good

/-- The worse of a grade and an earlier one. -/
def worstGrade (earlier : Option BatteryGrade) (g : BatteryGrade) : BatteryGrade :=
  match earlier with
  | some e => if g.worse e then g else e
  | none => g

/-- R109, and R113 for the first candidate after start. -/
def State.takeCandidate (c : BatteryGrade) (s : State) : State :=
  let noted := s.onBattery fun b => { b with candidate := some c }
  if s.battery.provisional then
    (noted.onBattery fun b => { b.stopSettle with provisional := false }).setGrade true c
  else if c.worse s.battery.grade then (noted.onBattery Battery.stopSettle).setGrade false c
  else if s.battery.grade.worse c then
    noted.onBattery fun b =>
      { b with
        settleTimer := some (b.settleTimer.getD 0), settleCandidate := some (worstGrade b.settleCandidate c) }
  else noted.onBattery Battery.stopSettle

/-- R108: the ABSENT run and the candidate of one publication. -/
def State.gradePublication (g : AuxGroup) (s : State) : State :=
  let run := if g.vbat < s.cfg.battery.absent then min 3 (s.battery.absentRun + 1) else 0
  let s1 := s.onBattery fun b => { b with absentRun := run }
  s1.takeCandidate (candidateGrade s1.cfg.battery s1.battery g.vbat)

/-- R109: grading is frozen while the test load is on and until the load hold count runs out. -/
def State.gradingFrozen (s : State) : Bool := s.battery.test = .running || 0 < s.battery.loadHold

/-- Grading at a publication; `loadWasOn` says that the test load was on when the publication was taken. DESIGN CHOICE
(log entry 38): a publication that itself aborts the test, and so loads the load hold count, does not decrement it. -/
def State.grading (loadWasOn : Bool) (aux : Option AuxGroup) (s : State) : State :=
  if loadWasOn || s.battery.test = .running then s
  else
    let s1 := s.onBattery fun b => { b with loadHold := b.loadHold - 1 }
    match aux with
    | some g => if s1.battery.loadHold = 0 then s1.gradePublication g else s1
    | none => s1

/-! ## The load test (R103 to R107) -/

/-- R104. -/
def State.testConditions (s : State) : Bool :=
  (s.battery.charger = .float || (s.battery.charger = .fault && s.battery.grade = .failed)) &&
    (s.seqState = .ready || s.seqState = .lockout || s.seqState = .standby) && !s.operating &&
    s.meas.src.presence = .live && s.energy.tripReady && s.battery.held.isSome

/-- R105: entry to RUNNING. -/
def State.startTest (s : State) : State :=
  (s.onBattery fun b =>
    { b with
      test := .running, v0 := (b.held.map AuxGroup.vbat).getD 0, durationTimer := some 0, pendingTimer := none
      intervalTimer := none, retryTimer := none }).decideBatteryCharger

/-- R103: an ask in IDLE stops both timers and checks the start conditions at once; elsewhere it changes nothing. -/
def State.askTest (s : State) : State :=
  if s.battery.test = .idle then
    let s1 := s.onBattery fun b => { b with intervalTimer := none, retryTimer := none }
    if s1.testConditions then s1.startTest else s1.onBattery fun b => { b with test := .pending, pendingTimer := some 0 }
  else s

/-- R103: the interval timer restarts at each result, where the test interval is above 0. -/
def State.intervalRestart (s : State) : Option Nat := if s.cfg.battery.testHours = 0 then none else some 0

/-- A test ends with a result: IDLE, its timers stopped, the interval timer from 0. -/
def State.endTest (r : LastResult) (s : State) : State :=
  let interval := s.intervalRestart
  s.onBattery fun b =>
    { b with test := .idle, durationTimer := none, pendingTimer := none, intervalTimer := interval, last := r }

/-- A result without figures at this moment. -/
def State.bareResult (r : TestResult) (v0 : Option Nat) (s : State) : LastResult :=
  { result := r, v0, v1 := none, i1 := none, r := none, time := s.secs }

/-- R107: a RUNNING test is aborted, and in any other state nothing happens. -/
def State.abortTest (s : State) : State :=
  if s.battery.test = .running then
    ((s.endTest (s.bareResult .aborted (some s.battery.v0))).onBattery fun b =>
      { b with retryTimer := some 0, loadHold := 2 }).decideBatteryCharger
  else s

/-- An operation request reported by the Mechanism Driver aborts a RUNNING test (R67, R69, R107). -/
def State.operationRequest (s : State) : State := s.abortTest

/-- R106: the result and R of a test that has run its full duration. -/
def judgeTest (settings : BatterySettings) (v0 v1 : Nat) (i1 : Int) : TestResult × Option Nat :=
  if i1 < (settings.minCurrent : Int) then (.loadFault, none)
  else
    let r := if v1 < v0 then (v0 - v1) * 1000 / i1.toNat else 0
    if settings.failLimit < r || v1 < settings.endVoltage then (.failed, some r)
    else if settings.goodLimit < r then (.marginal, some r)
    else (.pass, some r)

/-- The judged result after a result (R106). -/
def judgedAfter (before : Judged) : TestResult → Judged
  | .pass => .pass
  | .marginal => .marginal
  | .failed => .failed
  | .none | .loadFault | .aborted | .skipped => before

/-- R106: a FAILED result is a worsening that takes effect at once. -/
def State.failGrade (s : State) : State :=
  let s1 := s.onBattery Battery.stopSettle
  if BatteryGrade.worse .failed s.battery.grade then s1.setGrade false .failed else s1

/-- R105, R106: the duration has run; V1 and I1 are the held values. -/
def State.finishTest (s : State) : State :=
  let v1 := (s.battery.held.map AuxGroup.vbat).getD 0
  let i1 := -(s.battery.held.map AuxGroup.ibat).getD 0
  let judged := judgeTest s.cfg.battery s.battery.v0 v1 i1
  let result : LastResult :=
    { result := judged.1, v0 := some s.battery.v0, v1 := some v1, i1 := some i1, r := judged.2, time := s.secs }
  let s1 :=
    ((s.endTest result).onBattery fun b =>
      { b with loadHold := 2, judged := judgedAfter b.judged judged.1 }).decideBatteryCharger
  let s2 := s1.raiseIf (judged.1 = .failed || judged.1 = .loadFault) .testFailed
  if judged.1 = .failed then s2.failGrade else s2

/-- The answers of TEST START and TEST ABORT (R103, R187). -/
inductive TestAnswer where
  | accepted | inProgress | noTest
  deriving DecidableEq, Repr

/-- R103: the answer to a TEST START. -/
def State.testStartAnswer (s : State) : TestAnswer := if s.battery.test = .idle then .accepted else .inProgress

/-- R103: the answer to a TEST ABORT. -/
def State.testAbortAnswer (s : State) : TestAnswer :=
  if s.battery.test = .idle && s.battery.retryTimer.isNone then .noTest else .accepted

/-- R103: a TEST ABORT by test state. -/
def State.takeTestAbort (s : State) : State :=
  match s.battery.test with
  | .running => s.abortTest
  | .pending => (s.endTest (s.bareResult .aborted none)).onBattery fun b => { b with retryTimer := some 0 }
  | .idle => s.onBattery fun b => { b with retryTimer := none }

/-! ## A block publication at the Battery Manager -/

/-- R107: the abort events that come with a publication. -/
def State.abortsAt (p : Publication) (s : State) : Bool :=
  (s.pickedSet p).any || (p.srcWas = .live && p.src ≠ .live) ||
    (p.auxNew && (match p.aux with | some g => g.vbat < s.cfg.battery.abortFloor | none => false))

/-- CHARGE_COUNT's work on one publication: held values, abort events, charge, the start conditions of a PENDING test,
the charger, and grading. -/
def State.takePublication (p : Publication) (s : State) : State :=
  let loadWasOn : Bool := s.battery.test = .running
  let s1 := s.onBattery fun b => { b with held := p.aux }
  let s2 := if s1.abortsAt p then s1.abortTest else s1
  let s3 := match p.aux with | some g => s2.countCharge g | none => s2
  let s4 := if s3.battery.test = .pending && s3.testConditions then s3.startTest else s3
  let s5 := match p.auxNew, p.aux with | true, some g => s4.chargerUpdate s.battery.charger.forced g | _, _ => s4
  s5.grading loadWasOn p.aux

def State.chargeCount (s : State) : State :=
  match s.mail.battery with
  | [] => s
  | p :: rest => (s.onMail fun m => { m with battery := rest }).takePublication p

/-! ## Commands -/

/-- CHARGE_COUNT (R101). -/
def execChargeCount (s : State) : Host.Outcome State Fault Refusal := act State.chargeCount s

/-- R98: FLOAT by limit, with no calibration. -/
def State.absorbLimit (s : State) : State := s.onBattery fun b => { b with charger := .float, absorbTimer := none }

/-- ABSORB_TIME_LIMIT (R98). -/
def execAbsorbTimeLimit (s : State) : Host.Outcome State Fault Refusal :=
  act (when (s.battery.charger = .absorb && due s.battery.absorbTimer (s.cfg.battery.absorbHours * 3600000))
    State.absorbLimit) s

/-- R109: the settle candidate takes effect. -/
def State.settle (s : State) : State :=
  match s.battery.settleCandidate with
  | some g => (s.onBattery Battery.stopSettle).setGrade false g
  | none => s.onBattery Battery.stopSettle

/-- SETTLE_TIMER_EXPIRY (R109): the settle timer holds while grading is frozen. -/
def execSettleTimerExpiry (s : State) : Host.Outcome State Fault Refusal :=
  act (when (!s.gradingFrozen && due s.battery.settleTimer (s.cfg.battery.settle * 1000)) State.settle) s

/-- TEST_INTERVAL_EXPIRY (R103). -/
def execTestIntervalExpiry (s : State) : Host.Outcome State Fault Refusal :=
  act (when (due s.battery.intervalTimer (s.cfg.battery.testHours * 3600000)) State.askTest) s

/-- RETRY_EXPIRY (R103, R107). -/
def execRetryExpiry (s : State) : Host.Outcome State Fault Refusal :=
  act (when (due s.battery.retryTimer (s.cfg.battery.retryMinutes * 60000)) State.askTest) s

/-- R104: the pending limit ends the test SKIPPED. DESIGN CHOICE (log entry 39): the last result then holds no V0, V1, I1
or R, as of a test that took none. -/
def State.skipTest (s : State) : State := s.endTest (s.bareResult .skipped none)

/-- PENDING_LIMIT (R104). -/
def execPendingLimit (s : State) : Host.Outcome State Fault Refusal :=
  act (when (s.battery.test = .pending && due s.battery.pendingTimer pendingLimitMs) State.skipTest) s

/-- TEST_DURATION_EXPIRY (R105). -/
def execTestDurationExpiry (s : State) : Host.Outcome State Fault Refusal :=
  act (when (s.battery.test = .running && due s.battery.durationTimer (s.cfg.battery.duration * 1000))
    State.finishTest) s

/-- The raw level of the sense input looked at (R84). -/
def Energy.seeSupply (present : Bool) (held : Nat) (e : Energy) : Energy :=
  { e with supplyInput := e.supplyInput.see present held e.supply }

/-- R84: a level that has held for 100 ms is taken and reported to the energy conditions and to the Battery Manager. -/
def State.takeSupply (s : State) : State :=
  if s.energy.supplyInput.ripe supplyFilter then
    (s.onEnergy fun e =>
      { e with
        supply := e.supplyInput.level
        supplyInput := e.supplyInput.settle supplyFilter }).decideCapChargers.decideBatteryCharger.decideMode
  else s

/-- AUX_SUPPLY_CHANGE (R84): the level on the sense input, taken once it has held (log entry 9). -/
def execAuxSupplyChange (present : Bool) (held : Nat) (s : State) : Host.Outcome State Fault Refusal :=
  actAfter (s.energy.supplyInput.missed supplyFilter held s.energy.supply) State.takeSupply
    (fun s1 => (s1.onEnergy (Energy.seeSupply present held)).takeSupply) s

end Sys2Proof.Machine
end

