-- ==== Sys2Proof/Machine/PeerView.lean ====
section
/-! DEFINITION. What other blocks read from the Peer Table: adjacency (R145), the Feeder Coordinator's two answers to the
Overcurrent Unit (R146), and the sleeping peers of the preamble choice (R116). -/

namespace Sys2Proof.Machine

/-- A segment of 0 never matches (R145). -/
def sameSegment (x y : Nat) : Bool := x ≠ 0 && x = y

/-- Adjacency of segments (R145). -/
def State.adjacentTo (s : State) (id : PeerIdentity) : Bool :=
  let own := s.cfg.identity
  sameSegment id.source own.sourceSegment || sameSegment id.source own.loadSegment ||
    sameSegment id.load own.sourceSegment || sameSegment id.load own.loadSegment

/-- A record with unknown segments is adjacent to nothing (R145). -/
def State.adjacent (s : State) (p : Peer) : Bool :=
  match p.identity with
  | some id => s.adjacentTo id
  | none => false

/-- Upstream and downstream hold between stations neither of which is a TIE (R145). -/
def State.downstream (s : State) (p : Peer) : Bool :=
  match p.identity with
  | some id => s.role ≠ .tie && id.role ≠ .tie && sameSegment id.source s.cfg.identity.loadSegment
  | none => false

def State.upstream (s : State) (p : Peer) : Bool :=
  match p.identity with
  | some id => s.role ≠ .tie && id.role ≠ .tie && sameSegment id.load s.cfg.identity.sourceSegment
  | none => false

/-- A peer is protective when its record's protective flag is yes (R145). -/
def Peer.protective (p : Peer) : Bool :=
  match p.identity with
  | some id => id.protective
  | none => false

/-- The peer records held, in slot order. -/
def PeerTable.held (t : PeerTable) : List Peer := t.slots.filterMap id

/-- FRESH, downstream adjacent and protective (R146). -/
def State.blockingPeer (s : State) (p : Peer) : Bool :=
  p.freshness = .fresh && s.downstream p && p.protective

/-- R146, first question: such a peer is held. -/
def State.hasBlockingPeer (s : State) : Bool := s.peers.held.any s.blockingPeer

/-- R35, R146, second question: such a peer's FAULT was heard within the coordination window before this moment. -/
def State.recentFault (s : State) : Bool :=
  s.peers.held.any fun p =>
    s.blockingPeer p &&
      (match p.fault with
       | some f => s.now ≤ f.heard + s.cfg.protection.window
       | none => false)

/-- A peer is sleeping by its last STATE or its latest accepted frame (R116). -/
def Peer.isSleeping (p : Peer) : Bool :=
  p.economyHeard ||
    (match p.lastState with
     | some bs => stateMode bs ≠ .full
     | none => false)

/-- R116: at least one FRESH peer is sleeping. -/
def State.sleepingPeerHeld (s : State) : Bool := s.peers.held.any fun p => p.freshness = .fresh && p.isSleeping

end Sys2Proof.Machine
end

