-- ==== Sys2Proof/Machine/Overcurrent.lean ====
section
/-! DEFINITION. The Overcurrent Unit (chapter 2): evaluation of a block, the offer, withdrawal, fast blocking, the summaries,
and the commands BLOCK_EVALUATION and HOLD_COUNTER_EXPIRY. -/

namespace Sys2Proof.Machine

/-! ## Reached points and accumulators (R21, R22) -/

/-- The highest used point, with `k` the index of the list's head, that a test on the threshold accepts. -/
def highestPoint (accepts : Nat → Bool) (k : Nat) : List CurvePoint → List Nat → Option Nat
  | p :: ps, t :: ts =>
    match highestPoint accepts (k + 1) ps ts with
    | some j => some j
    | none => if p.used && accepts t then some k else none
  | _, _ => none

/-- R21: the reached point of one element on one curve. -/
def reachedPoint (points : List CurvePoint) (table : List Nat) (clip : Bool) (q : Nat) : Option Nat :=
  if clip then highestPoint (fun _ => true) 0 points table
  else if q < pickupThreshold table then none
  else highestPoint (fun t => t ≤ q) 0 points table

/-- R22: an armed accumulator moves by the reached point or the reset decrement; an unarmed one is held at 0. -/
def movedAccumulator (armed : Bool) (points : List CurvePoint) (rdec : Nat) (reached : Option Nat) (acc : Nat) : Nat :=
  if armed then
    match reached with
    | some k => min (acc + ((points.map CurvePoint.increment).getD k 0)) fullAccumulator
    | none => acc - rdec
  else 0

/-- An accumulator at 1,048,576 is full (R22). -/
def isFull (acc : Nat) : Bool := fullAccumulator ≤ acc

/-- The reached points of the four elements on one curve. -/
def reachedPoints (points : List CurvePoint) (phase ground : List Nat) (p : Publication) : Quad (Option Nat) where
  a := reachedPoint points phase p.clips.a p.q.a
  b := reachedPoint points phase p.clips.b p.q.b
  c := reachedPoint points phase p.clips.c p.q.c
  g := reachedPoint points ground p.clips.g p.q.g

/-! ## Evaluation of a block -/

/-- What one block's evaluation reads beside the unit's own state: its picked-up set and reached points, the Feeder
Coordinator's answers, and whether an event is open. -/
structure BlockView where
  settings : ProtectionSettings
  picked : Quad Bool
  fast : Quad (Option Nat)
  delayed : Quad (Option Nat)
  publication : Publication
  blockingPeer : Bool
  recentFault : Bool
  eventOpen : Bool
  deriving DecidableEq, Repr

/-- What the unit hands on from a block: reports to the Sequence Controller and at most one passage indication. -/
structure Handed where
  reports : List OcReport
  passage : Option ShotSummary
  deriving DecidableEq, Repr

/-- R20: latest Q and last pickup time. -/
def Oc.takeBlock (v : BlockView) (u : Oc) : Oc :=
  { u with
    latestQ := v.publication.q, lastPickup := if v.picked.any then some v.publication.time else u.lastPickup }

/-- R26: FAST is armed on a protective station when hot-line forced, or on a FAST shot while not fast-blocked. -/
def Active.armsFast (a : Active) (fastBlocked : Bool) : Bool :=
  a.protective && (a.hotForced || (a.curve = .fast && !fastBlocked))

/-- The active settings that an offer gives (R25). -/
def Offer.active (o : Offer) : Active :=
  { shot := o.shot, curve := o.curve, protective := o.protective, holdEnabled := o.holdEnabled
    hotForced := o.hotForced }

/-- R25, steps 1 to 4: a RUNNING entry under an offer, with the accumulators at 0. -/
def Oc.enterRunning (v : BlockView) (o : Offer) (u : Oc) : Oc :=
  let blocked := (u.fastBlocked && !o.newEvent) || v.recentFault
  let summary := if o.newEvent then none else u.shotSummary.filter fun x => x.shot = o.shot
  { u with
    unit := .running, active := some o.active, fast := Quad.zero, delayed := Quad.zero
    fastArmed := o.active.armsFast blocked, delayedArmed := o.protective, fastBlocked := blocked
    shotSummary := summary, eventSummary := if o.newEvent then EventSummary.empty else u.eventSummary }

/-- R37: hot-line forced that appeared during the shot arms FAST at this block, from 0. -/
def Oc.armForced (u : Oc) : Oc :=
  match u.active with
  | some a =>
    if (u.unit = .running || u.unit = .hold) && a.hotForced && a.protective && !u.fastArmed then
      { u with fastArmed := true, fast := Quad.zero }
    else u
  | none => u

/-- The larger of an index and the reached points of the elements. -/
def highestReached (start : Nat) (r : Quad (Option Nat)) : Nat :=
  max (max (max (max start (r.a.getD 0)) (r.b.getD 0)) (r.c.getD 0)) (r.g.getD 0)

/-- R38: the shot summary takes a picked-up block of a shot. -/
def ShotSummary.add (v : BlockView) (x : ShotSummary) : ShotSummary :=
  { x with
    elements := x.elements.union v.picked, highest := highestReached x.highest v.delayed
    clipped := x.clipped || v.publication.clips.any }

/-- The shot that the unit is on: of the active settings, or of the offer held (R38). -/
def Oc.currentShot (u : Oc) : Option Nat :=
  match u.active with
  | some a => some a.shot
  | none => u.offer.map Offer.shot

/-- The shot summary after a block, counted while an offer is held (R38). DESIGN CHOICE (log entry 36): with no active
settings, as in DEMANDED entered from WATCHING, the shot is the offer's, and a summary held of another shot takes the
block, since no RUNNING entry has cleared it. -/
def Oc.summaryAfter (v : BlockView) (u : Oc) : Option ShotSummary :=
  if u.offer.isSome && v.picked.any then
    match u.currentShot with
    | some shot =>
      some ((u.shotSummary.getD ⟨shot, Quad.none, 0, false, false⟩).add v)
    | none => u.shotSummary
  else u.shotSummary

/-- The passage run after a block (R38). -/
def Oc.runAfter (v : BlockView) (u : Oc) : Nat :=
  if u.offer.isSome then (if v.picked.any then min (u.passageRun + 1) v.settings.passageConfirm else 0)
  else u.passageRun

/-- R38: passage run and shot summary, with the indication given once per shot. -/
def Oc.countPassage (v : BlockView) (u : Oc) : Oc × Option ShotSummary :=
  let run := u.runAfter v
  let u1 := { u with passageRun := run, shotSummary := u.summaryAfter v }
  match u1.shotSummary with
  | some x =>
    if u.offer.isSome && v.picked.any && run = v.settings.passageConfirm && !x.indicated then
      ({ u1 with shotSummary := some { x with indicated := true } }, some { x with indicated := true })
    else (u1, none)
  | none => (u1, none)

/-- R39: the event summary takes a block of an open event. -/
def Oc.noteEvent (v : BlockView) (u : Oc) : Oc :=
  let e := u.eventSummary
  { u with
    eventSummary := { e with elements := e.elements.union v.picked, peak := e.peak.zip max v.publication.q } }

/-- R22: the accumulators move in RUNNING and HOLD. -/
def Oc.moveAccumulators (v : BlockView) (u : Oc) : Oc :=
  if u.unit = .running || u.unit = .hold then
    { u with
      fast := v.fast.zip (movedAccumulator u.fastArmed v.settings.fastCurve v.settings.fastReset) u.fast
      delayed := v.delayed.zip (movedAccumulator u.delayedArmed v.settings.delayedCurve v.settings.delayedReset)
        u.delayed }
  else u

/-- A trip demand of a curve (2.4): the unit enters DEMANDED. -/
def Oc.demand (curve : Curve) (elements : Quad Bool) (u : Oc) : Oc × List OcReport :=
  ({ u with unit := .demanded }, [.demand curve elements (u.currentShot.getD 1)])

/-- The elements whose accumulators of a curve are full. -/
def fullSet (acc : Quad Nat) : Quad Bool := acc.map isFull

/-- The hold counter's demand is not called for: hold disabled, hold count 0, or no FRESH downstream adjacent protective
peer (R32). -/
def Oc.demandsAtOnce (v : BlockView) (u : Oc) : Bool :=
  v.settings.holdCount = 0 || !v.blockingPeer ||
    (match u.active with
     | some a => !a.holdEnabled
     | none => true)

/-- Every accumulator is 0; an unarmed one is always 0 (R22, R28). -/
def Oc.allClear (u : Oc) : Bool := u.fast = Quad.zero && u.delayed = Quad.zero

/-- R28: back to WATCHING; the offer held is kept. -/
def Oc.backToWatching (u : Oc) : Oc :=
  { u with unit := .watching, active := none, fastArmed := false, delayedArmed := false }

/-- R28, R31, R32: what follows a block in RUNNING. -/
def Oc.decideRunning (v : BlockView) (u : Oc) : Oc × List OcReport :=
  if (fullSet u.delayed).any then u.demand .delayed (fullSet u.delayed)
  else if (fullSet u.fast).any then
    if u.demandsAtOnce v then u.demand .fast (fullSet u.fast)
    else
      ({ u with
         unit := .hold, hold := v.settings.holdCount, eventSummary := { u.eventSummary with holdUsed := true } }, [])
  else if !v.picked.any && u.allClear then (u.backToWatching, [.timingEnded])
  else (u, [])

/-- R31, R33, R37: what follows a block in HOLD. -/
def Oc.decideHold (u : Oc) : Oc × List OcReport :=
  if (fullSet u.delayed).any then u.demand .delayed (fullSet u.delayed)
  else if !(fullSet u.fast).any then ({ u with unit := .running, hold := 0 }, [])
  else if (match u.active with | some a => !a.holdEnabled | none => true) then u.demand .fast (fullSet u.fast)
  else if u.hold ≤ 1 then { u with hold := 0 }.demand .fast (fullSet u.fast)
  else ({ u with hold := u.hold - 1 }, [])

/-- Demand and hold, decided after the move (R22). -/
def Oc.decide (v : BlockView) (u : Oc) : Oc × List OcReport :=
  match u.unit with
  | .running => u.decideRunning v
  | .hold => u.decideHold
  | .quiet | .watching | .demanded => (u, [])

/-- The offer under which this block is a RUNNING entry (R25). -/
def Oc.entryOffer (v : BlockView) (u : Oc) : Option Offer :=
  if u.unit = .watching && v.picked.any then u.offer else none

/-- The evaluation of one block (2.2). -/
def Oc.evaluate (v : BlockView) (u : Oc) : Oc × Handed :=
  let entry := u.entryOffer v
  let u1 := u.takeBlock v
  let u2 := match entry with | some o => u1.enterRunning v o | none => u1.armForced
  let (u3, passage) := u2.countPassage v
  let starts := match entry with | some o => o.newEvent | none => false
  let u4 := if v.eventOpen || starts then u3.noteEvent v else u3
  let (u5, decided) := (u4.moveAccumulators v).decide v
  let pickup := match entry with | some o => [OcReport.pickup o.newEvent] | none => []
  (u5, { reports := pickup ++ decided, passage })

/-- A pickup report with new event set waits: its event has begun for the unit. -/
def Mail.eventWaiting (m : Mail) : Bool :=
  m.reports.any fun r => match r with | .pickup n => n | .timingEnded => false | .demand _ _ _ => false

/-- An event is open from its start to its end (R34, R39). DESIGN CHOICE (log entry 48): an evaluated block counts toward the
event that is open at its evaluation, also where an event started or ended since its publication. -/
def State.eventOpen (s : State) : Bool := s.seq.event.isSome || s.mail.eventWaiting

/-- What the evaluation of a publication reads. -/
def State.blockView (s : State) (p : Publication) : BlockView where
  settings := s.cfg.protection
  picked := s.pickedSet p
  fast := reachedPoints s.cfg.protection.fastCurve s.derived.phaseFast s.derived.groundFast p
  delayed := reachedPoints s.cfg.protection.delayedCurve s.derived.phaseDelayed s.derived.groundDelayed p
  publication := p
  blockingPeer := s.hasBlockingPeer
  recentFault := s.recentFault
  eventOpen := s.eventOpen

/-- One publication evaluated, with what it hands on put into the mailboxes. -/
def State.evaluateBlock (p : Publication) (s : State) : State :=
  let (u, handed) := s.oc.evaluate (s.blockView p)
  (s.onOc fun _ => u).onMail fun m =>
    { m with reports := m.reports ++ handed.reports, passages := m.passages ++ handed.passage.toList }

/-- The next publication waiting for the Overcurrent Unit is evaluated. DESIGN CHOICE (log entry 51): one that still waits
when measurement loss is declared (R4) stays and is evaluated like any other, also while the measurement state is LOST. -/
def State.nextBlock (s : State) : State :=
  match s.mail.overcurrent with
  | [] => s
  | p :: rest => (s.onMail fun m => { m with overcurrent := rest }).evaluateBlock p

/-- BLOCK_EVALUATION (R20). -/
def execBlockEvaluation (s : State) : Host.Outcome State Fault Refusal := act State.nextBlock s

/-- HOLD_COUNTER_EXPIRY (R33): the block at which the hold counter of a unit in HOLD reaches 0 (log entry 13). -/
def execHoldCounterExpiry (s : State) : Host.Outcome State Fault Refusal :=
  act (when (s.oc.unit = .hold && s.oc.hold = 1) State.nextBlock) s

/-! ## Offers, withdrawal, demands made elsewhere (R24, R29, R30, R37) -/

/-- R37: hot-line forced appearing in the offer of a shot under way. -/
def Oc.takeForced (o : Offer) (u : Oc) : Oc :=
  if o.hotForced && (u.unit = .running || u.unit = .hold) then
    { u with active := u.active.map fun a => { a with curve := .fast, holdEnabled := false, hotForced := true } }
  else u

/-- R24: an offer given or updated. -/
def Oc.takeOffer (o : Offer) (u : Oc) : Oc :=
  if u.unit = .quiet then
    { u with
      unit := .watching, offer := some o, fast := Quad.zero, delayed := Quad.zero, fastArmed := false
      delayedArmed := false }
  else { u.takeForced o with offer := some o }

/-- R30: withdrawal; fast-blocked and the summaries are kept. -/
def Oc.withdraw (u : Oc) : Oc :=
  { u with
    unit := .quiet, offer := none, active := none, fast := Quad.zero, delayed := Quad.zero, fastArmed := false
    delayedArmed := false, hold := 0, passageRun := 0 }

/-- R29: DEMANDED for a trip requested elsewhere. -/
def Oc.demandElsewhere (u : Oc) : Oc := { u with unit := .demanded }

/-- The offer withdrawn (R30); reports of the withdrawn shot not yet taken go with it (log entry 4). -/
def State.withdrawOffer (s : State) : State := (s.onOc Oc.withdraw).onMail fun m => { m with reports := [] }

/-! ## Fast blocking and event end (R34, R36, R39, R43) -/

/-- R34: a fast block, with whether an event is open. DESIGN CHOICE (log entry 35): under hot-line forced a unit in HOLD
stays there with its counter, and fast-blocked alone is set. -/
def Oc.fastBlock (eventOpen : Bool) (u : Oc) : Oc :=
  if u.fastBlocked then u
  else
    let forced := match u.active with | some a => a.hotForced | none => false
    match u.unit with
    | .quiet | .watching => if eventOpen then { u with fastBlocked := true } else u
    | .running =>
      if forced then { u with fastBlocked := true }
      else { u with fastBlocked := true, fast := Quad.zero, fastArmed := false }
    | .hold =>
      if forced then { u with fastBlocked := true }
      else { u with unit := .running, hold := 0, fastBlocked := true, fast := Quad.zero, fastArmed := false }
    | .demanded =>
      if forced then { u with fastBlocked := true }
      else { u with fastBlocked := true, fast := Quad.zero, fastArmed := false }

/-- A fast block delivered by the Feeder Coordinator (R146). -/
def State.fastBlock (s : State) : State := s.onOc (Oc.fastBlock s.eventOpen)

/-- R36, R39: at the event end fast-blocked is copied into the summary and cleared. -/
def Oc.eventEnd (u : Oc) : Oc :=
  { u with fastBlocked := false, eventSummary := { u.eventSummary with fastBlocked := u.fastBlocked } }

/-- R43: at an event start by a Feeder Coordinator open. -/
def Oc.clearForEvent (u : Oc) : Oc := { u with fastBlocked := false, eventSummary := EventSummary.empty }

end Sys2Proof.Machine
end

