-- ==== Sys2Proof/Machine/Sequence.lean ====
section
/-! DEFINITION. The Sequence Controller's own moves (chapter 3): offers, events and their records, entries to the sequence
states, what it does at the Mechanism Driver's reports, hot-line mode, and the tie delay that STANDBY carries (R155). -/

namespace Sys2Proof.Machine

/-! ## Fault records (R180, R181) -/

/-- R181: the newest record first, at most 32. -/
def Log.write (r : FaultRecord) (l : Log) : Log :=
  { records := (r :: l.records).take logCapacity, written := sat16 l.written
    overwrites := if logCapacity ≤ l.records.length then sat16 l.overwrites else l.overwrites }

/-- R180: the record of an event context and an event summary. -/
def faultRecord (e : EventContext) (x : EventSummary) (outcome : EventOutcome) (reason : Option LockoutReason) :
    FaultRecord where
  number := e.number
  start := e.start
  elements := x.elements
  peak := x.peak
  shots := e.shots
  fastBlocked := x.fastBlocked
  holdUsed := x.holdUsed
  outcome := outcome
  reason := reason
  grade := e.grade

/-- R44: the open event ends with an outcome; with no event open nothing ends. -/
def State.endEvent (outcome : EventOutcome) (reason : Option LockoutReason) (s : State) : State :=
  match s.seq.event with
  | none => s
  | some e =>
    let s1 := s.onOc Oc.eventEnd
    (s1.onLog (Log.write (faultRecord e s1.oc.eventSummary outcome reason))).onSeq fun q => { q with event := none }

/-- R43: the event number after a start; 0 is never used again after 65,535. -/
def nextEventNumber (n : Nat) : Nat := if n = 65535 then 1 else n + 1

/-- R43: an event starts. -/
def State.startEvent (s : State) : State :=
  let e : EventContext :=
    { number := nextEventNumber s.seq.eventNumber, start := s.secs, grade := s.battery.grade, shots := 0 }
  s.onSeq fun q => { q with eventNumber := e.number, event := some e }

/-! ## Offers (R42) -/

/-- R42: the offer of a shot from the state of this moment. -/
def State.offerFor (shot : Nat) (newEvent : Bool) (s : State) : Offer where
  shot := shot
  curve := s.planCurve shot
  protective := s.protective
  holdEnabled := !s.seq.hotLine
  hotForced := s.seq.hotLine
  newEvent := newEvent

def State.giveOffer (o : Offer) (s : State) : State := s.onOc (Oc.takeOffer o)

/-- R42: an update keeps the shot and the new-event field and works the others again. -/
def State.updateOffer (s : State) : State :=
  match s.oc.offer with
  | some o => s.giveOffer (s.offerFor o.shot o.newEvent)
  | none => s

/-! ## Entries to sequence states -/

/-- READY: shot counter 1, and the READY offer (R42, R54). -/
def State.enterReady (s : State) : State :=
  let s1 := (s.setPhase .ready).onSeq fun q => { q.stopTimers with shot := 1 }
  s1.giveOffer (s1.offerFor 1 true)

/-- RECLAIM: a fresh reclaim timer and the RECLAIM offer, with new event when no event is open (R42, R46, R53). -/
def State.enterReclaim (s : State) : State :=
  let s1 :=
    (s.setPhase .reclaim).onSeq fun q => { q.stopTimers with reclaimTimer := some (s.cfg.sequence.reclaim * 1000) }
  s1.giveOffer (s1.offerFor s1.seq.shot s1.seq.event.isNone)

/-- DEAD after the trip of the present shot (R48, R50). -/
def State.enterDead (s : State) : State :=
  ((s.setPhase .dead).onSeq fun q => { q.stopTimers with deadTimer := some (s.deadTime q.shot) }).withdrawOffer

/-- The outcome of an event that an entry to LOCKOUT ends, and the reason its record carries (R44, R180). -/
def lockoutOutcome : LockoutReason → EventOutcome × Option LockoutReason
  | .sectionalized => (.sectionalized, none)
  | .isolated => (.isolated, none)
  | .fault => (.lockout, some .fault)
  | .hotLine => (.lockout, some .hotLine)
  | .energy => (.lockout, some .energy)
  | .gate => (.lockout, some .gate)
  | .mechanism => (.lockout, some .mechanism)
  | .manual => (.lockout, some .manual)
  | .start => (.lockout, some .start)
  | .handle => (.lockout, some .handle)

/-- R55: an entry to LOCKOUT. -/
def State.enterLockout (reason : LockoutReason) (detail : Option GateReason) (s : State) : State :=
  let s1 :=
    (s.setPhase .lockout).onSeq fun q => { q.stopTimers.clearCauses with reason := some reason, detail := detail }
  (s1.withdrawOffer.endEvent (lockoutOutcome reason).1 (lockoutOutcome reason).2).raise .lockout

/-- R155: the dead side (source when true) while the tie delay condition holds. -/
def State.tieDeadSide (s : State) : Option Bool :=
  if s.role = .tie && !s.defaulted && s.seq.phase = .standby then
    match s.meas.src.presence, s.meas.load.presence with
    | .dead, .live => some true
    | .live, .dead => some false
    | _, _ => none
  else none

/-- R155: the tie delay timer is kept while its condition holds for its dead side, stopped when it ends, and started
where it begins. -/
def State.reviewTie (s : State) : State :=
  let side := s.tieDeadSide
  s.onCoord fun c =>
    match side with
    | none => { c with tie := none }
    | some d =>
      if c.tie.any (·.deadIsSource = d) then c else { c with tie := some { deadIsSource := d, elapsed := 0, served := false } }

/-- STANDBY: no offer, no reason, no timers (R30, R48, R55, R56). -/
def State.enterStandby (s : State) : State :=
  let s1 :=
    (s.setPhase .standby).onSeq fun q => { q.stopTimers.clearCauses with reason := none, detail := none }
  (s1.withdrawOffer.endEvent .lockout (some .manual)).reviewTie

/-! ## Reports of the Mechanism Driver (R48, R49, R53) -/

/-- R48: the state that a completed trip leads to. -/
def State.leaveTripping (s : State) : State :=
  let causes := s.seq.causes
  let marked := s.seq.hotMark
  let s1 := s.onSeq Seq.clearCauses
  if causes.manual then
    if s.role = .tie then s1.enterStandby else s1.enterLockout .manual none
  else if causes.sectionalize then s1.enterLockout .sectionalized none
  else if causes.isolate then s1.enterLockout .isolated none
  else if marked then s1.enterLockout .hotLine none
  else if s.seq.shot < s.planShots then s1.enterDead
  else s1.enterLockout .fault none

/-- R48: shots taken increments in the open event, saturating at 255. -/
def Seq.countShot (q : Seq) : Seq :=
  { q with event := q.event.map fun e => { e with shots := min (e.shots + 1) 255 } }

/-- R153: the ISOLATE notice after a trip whose causes held SECTIONALIZE or ISOLATE. -/
def State.offerIsolate (causes : TripCauses) (s : State) : State :=
  if causes.sectionalize then s.offerNotice .isolate (s.isolatePayload false)
  else if causes.isolate then s.offerNotice .isolate (s.isolatePayload true)
  else s

/-- R48, R153: the Mechanism Driver reports a completed trip. -/
def State.tripCompleted (s : State) : State :=
  if s.seq.phase = .tripping then
    ((s.onSeq Seq.countShot).leaveTripping).offerIsolate s.seq.causes
  else s

/-- R49: a trip or close failure, or JAMMED; held causes are dropped with the held trip. -/
def State.mechanismFailed (s : State) : State := s.enterLockout .mechanism none

/-- R49: an unexpected open. -/
def State.unexpectedOpen (s : State) : State := if s.seq.phase.isClosed then s.enterLockout .handle none else s

/-- R49: an unexpected close. -/
def State.unexpectedClose (s : State) : State :=
  if s.seq.phase.isOpen then
    let ended :=
      if s.seq.phase = .dead || s.seq.phase = .rechargeWait then s.endEvent .lockout (some .handle) else s
    (ended.onSeq fun q => { q with shot := s.planShots, reason := none, detail := none }).enterReclaim
  else s

/-- The Overcurrent Unit is told of a trip requested elsewhere (R29). -/
def State.tellDemanded (s : State) : State := s.onOc Oc.demandElsewhere

/-- R53: a close has completed; `held` says that a trip is held behind it, which the driver then starts. -/
def State.closeCompleted (held : Bool) (s : State) : State :=
  if s.seq.phase = .reclosing then
    let counted :=
      s.onSeq fun q =>
        if q.recloseInFlight then { q with shot := q.shot + 1, recloseInFlight := false }
        else { q with shot := s.planShots, reason := none, detail := none }
    if held then
      ((counted.setPhase .tripping).onSeq fun q =>
        { q with causes := q.heldCauses, heldCauses := TripCauses.none, hotMark := q.hotLine }).tellDemanded
    else counted.enterReclaim
  else s

/-! ## Hot-line mode (R58, R59) -/

/-- R58: a hot-line begin. -/
def State.hotLineBegin (s : State) : State :=
  if s.seq.hotLine then s
  else
    let s1 := s.onSeq fun q => { q with hotLine := true }
    match s.seq.phase with
    | .ready | .reclaim | .timing => s1.updateOffer
    | .tripping => s1.onSeq fun q => { q with hotMark := true }
    | .dead | .rechargeWait => s1.enterLockout .hotLine none
    | .reclosing | .lockout | .standby => s1

/-- R59: a hot-line end. -/
def State.hotLineEnd (s : State) : State :=
  let s1 := s.onSeq fun q => { q with hotLine := false }
  if s.seq.hotLine && s.seq.phase.isClosed then s1.updateOffer else s1

/-! ## Reports of the Overcurrent Unit (R45, R46) -/

/-- R45: a pickup report that is acted on. DESIGN CHOICE (log entry 46): one with new event set that is taken in RECLAIM while an
event is still open replaces that event's context with the new event's and writes no record of it. -/
def State.takePickup (newEvent : Bool) (s : State) : State :=
  if s.seq.phase = .ready || s.seq.phase = .reclaim then
    let started := if newEvent then s.startEvent else s
    (started.setPhase .timing).onSeq fun q =>
      { q.stopTimers with fromReady := s.seq.phase = .ready, shot := if s.seq.phase = .ready then 1 else q.shot }
  else s

/-- The next report waiting, when it is a pickup, is taken (R45). -/
def State.pickupReport (s : State) : State :=
  match s.mail.reports with
  | .pickup newEvent :: rest => (s.onMail fun m => { m with reports := rest }).takePickup newEvent
  | _ => s

/-- PICKUP_REPORT (R45). -/
def execPickupReport (s : State) : Host.Outcome State Fault Refusal := act State.pickupReport s

/-- R46: timing ended. DESIGN CHOICE (log entry 37): where the unit has already taken a RUNNING entry with new event set, whose
pickup report waits behind this one, the end of the old event clears that entry's fast-blocked and records the summary that
it has begun (R36, R39). -/
def State.takeTimingEnded (s : State) : State :=
  if s.seq.phase = .timing then
    if s.seq.fromReady then s.enterReady.endEvent .cleared none else s.enterReclaim
  else s

/-- The next report waiting, when it is timing ended, is taken (R46). -/
def State.timingEnded (s : State) : State :=
  match s.mail.reports with
  | .timingEnded :: rest => (s.onMail fun m => { m with reports := rest }).takeTimingEnded
  | _ => s

/-- TIMING_ENDED (R46). -/
def execTimingEnded (s : State) : Host.Outcome State Fault Refusal := act State.timingEnded s

/-- R54: the reclaim time has run. -/
def State.reclaimEnd (s : State) : State := s.enterReady.endEvent .cleared none

/-- RECLAIM_EXPIRY (R54): a pickup report that waits was taken first (log entry 4). -/
def execReclaimExpiry (s : State) : Host.Outcome State Fault Refusal :=
  act (when (s.seq.phase = .reclaim && runOut s.seq.reclaimTimer && s.mail.reports.isEmpty) State.reclaimEnd) s

/-- R51: the recharge wait has run. -/
def State.rechargeEnd (s : State) : State := s.enterLockout .energy none

/-- RECHARGE_WAIT_EXPIRY (R51). -/
def execRechargeWaitExpiry (s : State) : Host.Outcome State Fault Refusal :=
  act (when (s.seq.phase = .rechargeWait && runOut s.seq.waitTimer) State.rechargeEnd) s

/-- R52: a dead time running in DEAD is shortened to at most 200 ms. -/
def State.shortenDeadTime (s : State) : State :=
  if s.seq.phase = .dead then
    s.onSeq fun q => { q with deadTimer := q.deadTimer.map fun r => min r shortDeadTime }
  else s

end Sys2Proof.Machine
end

