-- ==== Sys2Proof/Machine/Mechanism.lean ====
section
/-! DEFINITION. The Mechanism Driver (chapter 4): contact reading and position, trips and closes, JAMMED, counters and wear,
with the commands that end operations. -/

namespace Sys2Proof.Machine

/-! ## Contact reading (R65) -/

/-- The contact reading: OPEN (`some false`), CLOSED (`some true`) or DISAGREE (`none`). -/
def readingOf (contactOpen contactClosed : Bool) : Option Bool :=
  match contactOpen, contactClosed with
  | true, false => some false
  | false, true => some true
  | _, _ => none

def Mech.reading (m : Mech) : Option Bool := readingOf m.contactOpen m.contactClosed

/-- The position that a reading gives outside JAMMED (R66). -/
def positionOf : Option Bool → Position
  | some true => .closed
  | some false => .opened
  | none => .disagree

/-- R66: outside JAMMED the position follows the reading, and an agreeing reading is the last agreed position. -/
def Mech.follow (r : Option Bool) (m : Mech) : Mech :=
  { m with position := positionOf r, lastClosed := r.getD m.lastClosed }

/-! ## Wear (R76, R77) -/

/-- R76: one phase's wear after a trip with trip-start Q. -/
def wornBy (wear q : Nat) : Nat := sat32 wear (q / wearUnit)

def addWear (q wear : Phases) : Phases := ⟨wornBy wear.a q.a, wornBy wear.b q.b, wornBy wear.c q.c⟩

/-- R77: the wear limit is above 0 and some phase's wear is at or above it. -/
def State.worn (s : State) : Bool :=
  let limit := s.cfg.switch.wearLimit
  0 < limit && (limit ≤ s.mech.wear.a || limit ≤ s.mech.wear.b || limit ≤ s.mech.wear.c)

/-! ## Starting and ending operations (R67 to R72) -/

/-- R67: the Q of the last block published, which may still wait for the Overcurrent Unit. -/
def State.publishedQ (s : State) : Quad Nat := (s.mail.overcurrent.getLast?.map Publication.q).getD s.oc.latestQ

/-- R67, R87: a trip starts with the trip coil driven and the trip-start Q of the last block published. -/
def State.startTrip (s : State) : State :=
  let q : Phases := ⟨s.publishedQ.a, s.publishedQ.b, s.publishedQ.c⟩
  ((s.onMech fun m =>
      { m with
        operation := .trip, operationTimer := some 0, disagreeTimer := none, tripCoil := true
        tripStartQ := some q }).onEnergy Energy.fireTrip).decideCapChargers

/-- R69, R87: a close starts with the close coil driven. -/
def State.startClose (s : State) : State :=
  ((s.onMech fun m =>
      { m with
        operation := .close, operationTimer := some 0, disagreeTimer := none, closeCoil := true }).onEnergy
    Energy.fireClose).decideCapChargers

/-- The coils are released and no operation is in flight. -/
def Mech.release (m : Mech) : Mech :=
  { m with operation := .none, operationTimer := none, tripCoil := false, closeCoil := false, tripStartQ := none }

/-- R68, R75, R76: OPEN seen in a trip. -/
def Mech.completeTrip (m : Mech) : Mech :=
  { m.release with
    position := .opened, lastClosed := false, trips := sat32 m.trips 1
    wear := addWear (m.tripStartQ.getD Phases.zero) m.wear }

/-- R69, R75: CLOSED seen in a close. -/
def Mech.completeClose (m : Mech) : Mech :=
  { m.release with position := .closed, lastClosed := true, closes := sat32 m.closes 1, heldTrip := false }

/-- R68: the trip completes. -/
def State.completeTrip (s : State) : State :=
  let s1 := s.onMech Mech.completeTrip
  ((s1.raiseIf s1.worn .wearLimit).decideCapChargers).tripCompleted

/-- R69, R71: the close completes, and a held trip starts at once. -/
def State.completeClose (s : State) : State :=
  let held := s.mech.heldTrip
  let s1 := (s.onMech Mech.completeClose).decideCapChargers.closeCompleted held
  if held then s1.operationRequest.startTrip else s1

/-- R72: an entry to JAMMED, with any operation ended and any held trip dropped. -/
def State.enterJammed (s : State) : State :=
  ((s.onMech fun m =>
        { m.release with position := .jammed, heldTrip := false, disagreeTimer := none }).raise
      .mechanismFault).decideCapChargers.mechanismFailed

/-! ## Trip requests (R67, R70, R71) -/

/-- The Mechanism Driver's answer to a trip request. -/
inductive TripAnswer where
  | performed | refused | merged | held
  deriving DecidableEq, Repr

/-- R67: the answer by operation in flight and position. -/
def State.tripAnswer (s : State) : TripAnswer :=
  match s.mech.operation with
  | .trip => .merged
  | .close => .held
  | .none => if s.mech.position = .jammed then .refused else .performed

/-- R67: a trip request is taken; every one is reported to the Battery Manager. DESIGN CHOICE (log entry 53): a trip that
completes at once with no coil driven raises no WEAR LIMIT (R77). -/
def State.tripRequest (s : State) : State :=
  let s1 := s.operationRequest
  match s.tripAnswer with
  | .merged => s1
  | .held => s1.onMech fun m => { m with heldTrip := true }
  | .refused => s1.mechanismFailed
  | .performed => if s.mech.position = .opened then s1.tripCompleted else s1.startTrip

/-- R69: a close passed by the gate; on a switch already CLOSED it completes at once with no coil driven. -/
def State.closeRequest (s : State) : State :=
  let s1 := s.operationRequest
  if s.mech.position = .closed then s1.closeCompleted false else s1.startClose

/-! ## Trip demands (R47) -/

/-- R47: a demand in TIMING puts a trip in flight with cause FAULT; in TRIPPING it joins it. -/
def State.takeDemand (s : State) : State :=
  match s.seq.phase with
  | .timing =>
    ((s.setPhase .tripping).onSeq fun q =>
      { q.stopTimers with causes := { TripCauses.none with fault := true }, hotMark := q.hotLine }).tripRequest
  | .tripping => (s.onSeq fun q => { q with causes := { q.causes with fault := true } }).tripRequest
  | .ready | .dead | .rechargeWait | .reclosing | .reclaim | .lockout | .standby => s

/-- The next report waiting, when it is a trip demand, is taken (R47). -/
def State.tripDemand (s : State) : State :=
  match s.mail.reports with
  | .demand _ _ _ :: rest => (s.onMail fun m => { m with reports := rest }).takeDemand
  | _ => s

/-- TRIP_DEMAND (R47). -/
def execTripDemand (s : State) : Host.Outcome State Fault Refusal := act State.tripDemand s

/-! ## Contact changes (R65, R66, R74) -/

/-- R74: an unexpected move counts as a trip or a close. -/
def Mech.countMove (toClosed : Bool) (m : Mech) : Mech :=
  if toClosed then { m with closes := sat32 m.closes 1 } else { m with trips := sat32 m.trips 1 }

/-- R66, R74: a new reading outside an operation and outside JAMMED. -/
def State.readingAtRest (r : Option Bool) (s : State) : State :=
  match r with
  | none =>
    s.onMech fun m => { m.follow none with disagreeTimer := some (m.disagreeTimer.getD 0) }
  | some closed =>
    let s1 := s.onMech fun m => { m.follow (some closed) with disagreeTimer := none }
    if closed = s.mech.lastClosed then s1
    else
      let s2 := s1.onMech (Mech.countMove closed)
      if closed then s2.unexpectedClose else s2.unexpectedOpen

/-- A new contact reading (R66, R68, R69, R74). -/
def State.takeReading (r : Option Bool) (s : State) : State :=
  if s.mech.position = .jammed then s
  else
    match s.mech.operation with
    | .trip => if r = some false then s.completeTrip else s.onMech (Mech.follow r)
    | .close => if r = some true then s.completeClose else s.onMech (Mech.follow r)
    | .none => s.readingAtRest r

/-- The filtered levels change; a change of the reading they give is one event (R65). -/
def State.setContacts (contactOpen contactClosed : Bool) (s : State) : State :=
  let s1 := s.onMech fun m => { m with contactOpen := contactOpen, contactClosed := contactClosed }
  if s1.mech.reading = s.mech.reading then s1 else s1.takeReading s1.mech.reading

/-- The two contact inputs as the levels now on them found them. -/
def Mech.foundContacts (filter : Nat) (openMade : Bool) (openHeld : Nat) (closedMade : Bool) (closedHeld : Nat)
    (m : Mech) : Mech :=
  { m with
    openInput := m.openInput.found filter openMade openHeld
    closedInput := m.closedInput.found filter closedMade closedHeld }

/-- The raw levels of the two contact inputs looked at (R65). -/
def Mech.seeContacts (openMade : Bool) (openHeld : Nat) (closedMade : Bool) (closedHeld : Nat) (m : Mech) : Mech :=
  { m with
    openInput := m.openInput.see openMade openHeld m.contactOpen
    closedInput := m.closedInput.see closedMade closedHeld m.contactClosed }

/-- Each filter whose level has held comes to rest. -/
def Mech.settleContacts (filter : Nat) (m : Mech) : Mech :=
  { m with openInput := m.openInput.settle filter, closedInput := m.closedInput.settle filter }

/-- Each level that has held for the contact filter time is taken (R65). -/
def State.takeContacts (s : State) : State :=
  let filter := s.cfg.switch.contactFilter
  (s.onMech (Mech.settleContacts filter)).setContacts (s.mech.openInput.filtered filter s.mech.contactOpen)
    (s.mech.closedInput.filtered filter s.mech.contactClosed)

/-- The contact reading that the filters give at this moment. -/
def State.readingDue (s : State) : Option Bool :=
  let filter := s.cfg.switch.contactFilter
  readingOf (s.mech.openInput.filtered filter s.mech.contactOpen)
    (s.mech.closedInput.filtered filter s.mech.contactClosed)

/-- A contact level that had held before the level now there began to stand is still to be taken. -/
def State.contactMissed (openHeld closedHeld : Nat) (s : State) : Bool :=
  let filter := s.cfg.switch.contactFilter
  s.mech.openInput.missed filter openHeld s.mech.contactOpen ||
    s.mech.closedInput.missed filter closedHeld s.mech.contactClosed

/-- CONTACT_READING_CHANGE (R65): the levels on the two inputs, each taken once it has held (log entry 9). -/
def execContactReadingChange (openMade : Bool) (openHeld : Nat) (closedMade : Bool) (closedHeld : Nat) (s : State) :
    Host.Outcome State Fault Refusal :=
  actAfter (s.contactMissed openHeld closedHeld)
    (fun s1 =>
      (s1.onMech (Mech.foundContacts s1.cfg.switch.contactFilter openMade openHeld closedMade closedHeld)).takeContacts)
    (fun s1 => (s1.onMech (Mech.seeContacts openMade openHeld closedMade closedHeld)).takeContacts) s

/-- TRIP_COMPLETION (R48, R68): OPEN is seen in a trip, its levels having held. -/
def execTripCompletion (s : State) : Host.Outcome State Fault Refusal :=
  act (when (s.mech.operation = .trip && s.readingDue = some false) State.takeContacts) s

/-- TRIP_FAILURE (R68): the operation timer has reached the trip limit. -/
def execTripFailure (s : State) : Host.Outcome State Fault Refusal :=
  act (when (s.mech.operation = .trip && due s.mech.operationTimer s.cfg.switch.tripLimit) State.enterJammed) s

/-- CLOSE_COMPLETION (R53, R69): CLOSED is seen in a close, its levels having held. -/
def execCloseCompletion (s : State) : Host.Outcome State Fault Refusal :=
  act (when (s.mech.operation = .close && s.readingDue = some true) State.takeContacts) s

/-- CLOSE_FAILURE (R69): the operation timer has reached the close limit. -/
def execCloseFailure (s : State) : Host.Outcome State Fault Refusal :=
  act (when (s.mech.operation = .close && due s.mech.operationTimer s.cfg.switch.closeLimit) State.enterJammed) s

/-- DISAGREE_TIMER_EXPIRY (R66, R72). -/
def execDisagreeTimerExpiry (s : State) : Host.Outcome State Fault Refusal :=
  act (when (s.mech.operation = .none && s.mech.position = .disagree && due s.mech.disagreeTimer disagreeLimit)
    State.enterJammed) s

/-! ## Clearing JAMMED (R73) -/

/-- The answers to a clear request. -/
inductive ClearAnswer where
  | cleared | notCleared | notJammed
  deriving DecidableEq, Repr

def State.clearAnswer (s : State) : ClearAnswer :=
  if s.mech.position ≠ .jammed then .notJammed else if s.mech.reading.isSome then .cleared else .notCleared

/-- R73: a clear request ends JAMMED when the reading agrees. -/
def State.clearJammed (s : State) : State :=
  match s.clearAnswer with
  | .cleared => s.onMech fun m => m.follow m.reading
  | .notCleared => s
  | .notJammed => s

end Sys2Proof.Machine
end

