-- ==== Sys2Proof/Machine/CloseGate.lean ====
section
/-! DEFINITION. The Close Gate (4.8), open and close requests to the Sequence Controller (R56, R57), and the automatic
recloses (R50, R51). -/

namespace Sys2Proof.Machine

/-! ## The six checks (R78 to R81) -/

/-- A side gives its segment as a target when its presence is not LIVE and its segment is not 0 (R79). -/
def sideTarget (presence : Presence) (segment : Nat) : List Nat :=
  if presence ≠ .live && segment ≠ 0 then [segment] else []

/-- The target segments of this moment (R79). -/
def State.targets (s : State) : List Nat :=
  sideTarget s.meas.src.presence s.cfg.identity.sourceSegment ++
    sideTarget s.meas.load.presence s.cfg.identity.loadSegment

/-- R79, conditions 2 and 3: a present local tag that blocks. -/
def State.blocksLocally (s : State) (t : LocalTag) : Bool :=
  t.scope = .station || s.targets.contains (s.scopeSegment t.scope)

/-- R79, condition 4: a feeder tag that blocks. -/
def State.blocksFromFeeder (s : State) (t : FeederTag) : Bool := s.targets.contains t.segment

/-- R79: the fourth check fails. -/
def State.tagBlocked (s : State) : Bool :=
  s.tags.overflow || s.tags.slots.any (fun x => x.tag.any s.blocksLocally) ||
    s.tags.feeder.any (fun x => x.any s.blocksFromFeeder)

/-- R78: the first check that fails gives the reason; none is a pass. -/
def State.gateReason (s : State) : Option GateReason :=
  if s.mech.position = .jammed || s.mech.position = .disagree || s.operating then some .mechanism
  else if s.tags.unconfirmed then some .unconfirmed
  else if s.meas.state ≠ .sound then some .measurement
  else if s.tagBlocked then some .tag
  else if !s.energy.tripReady then some .tripEnergy
  else if !s.energy.closeReady then some .closeEnergy
  else none

/-- R80: the blocked count of every blocking tag goes up by one. -/
def State.countBlocked (s : State) : State :=
  s.onTags fun t =>
    { t with
      slots := t.slots.map fun x =>
        { x with tag := x.tag.map fun y => if s.blocksLocally y then { y with blocked := sat16 y.blocked } else y }
      feeder := t.feeder.map fun x =>
        x.map fun y => if s.blocksFromFeeder y then { y with blocked := sat16 y.blocked } else y }

/-- R80, R81: what an ask that is refused leaves: blocked counts for TAG, and the last refusal record. -/
def State.refuse (reason : GateReason) (requester : Requester) (s : State) : State :=
  let counted := if reason = .tag then s.countBlocked else s
  counted.onGate fun _ => some { reason, requester, time := s.secs }

/-! ## Close requests (R50, R51, R57) -/

/-- RECLOSING with the close put in flight at the moment of the pass (R50, R57, R78). -/
def State.reclose (automatic : Bool) (s : State) : State :=
  ((s.setPhase .reclosing).onSeq fun q =>
    { q.stopTimers.clearCauses with recloseInFlight := automatic }).withdrawOffer.closeRequest

/-- The answer to a commanded or restore close (R57). -/
inductive CloseAnswer where
  | accepted
  | gate (reason : GateReason)
  | wrongState
  deriving DecidableEq, Repr

/-- R57: LOCKOUT takes commanded closes; STANDBY takes commanded and restore closes. -/
def State.takesClose (requester : Requester) (s : State) : Bool :=
  s.seq.phase = .standby || (s.seq.phase = .lockout && requester ≠ .restore)

/-- R57: the answer to a commanded or restore close in this state. -/
def State.closeAnswer (requester : Requester) (s : State) : CloseAnswer :=
  if s.takesClose requester then
    match s.gateReason with
    | none => .accepted
    | some r => .gate r
  else .wrongState

/-- R57: a commanded or restore close. -/
def State.commandClose (requester : Requester) (s : State) : State :=
  match s.closeAnswer requester with
  | .accepted => s.reclose false
  | .gate r => s.refuse r requester
  | .wrongState => s

/-- A refusal that a recharge wait can mend (R50, R51). -/
def GateReason.isEnergy : GateReason → Bool
  | .tripEnergy | .closeEnergy => true
  | .mechanism | .unconfirmed | .measurement | .tag => false

/-- R50: RECHARGE WAIT; re-asks wait for the aux updates published from now on. -/
def State.enterRechargeWait (s : State) : State :=
  (((s.setPhase .rechargeWait).onSeq fun q =>
      { q.stopTimers with waitTimer := some (s.cfg.sequence.recharge * 1000) }).withdrawOffer).onMail fun m =>
    { m with reasks := 0 }

/-- R50: the dead time has run; the gate is asked for a reclose. -/
def State.deadTimeEnd (s : State) : State :=
  match s.gateReason with
  | none => s.reclose true
  | some r =>
    let refused := s.refuse r .reclose
    if r.isEnergy then
      if s.cfg.sequence.recharge = 0 then refused.enterLockout .energy none else refused.enterRechargeWait
    else refused.enterLockout .gate (some r)

/-- DEAD_TIME_EXPIRY (R50). -/
def execDeadTimeExpiry (s : State) : Host.Outcome State Fault Refusal :=
  act (when (s.seq.phase = .dead && runOut s.seq.deadTimer) State.deadTimeEnd) s

/-- R51: one aux update is taken for a re-ask. -/
def State.reask (s : State) : State :=
  let taken := s.onMail fun m => { m with reasks := m.reasks - 1 }
  match taken.gateReason with
  | none => taken.reclose true
  | some r =>
    let refused := taken.refuse r .reclose
    if r.isEnergy then refused else refused.enterLockout .gate (some r)

/-- RECHARGE_WAIT_REASK (R51). -/
def execRechargeWaitReask (s : State) : Host.Outcome State Fault Refusal :=
  act (when (s.seq.phase = .rechargeWait && 0 < s.mail.reasks) State.reask) s

/-! ## Open requests (R56) -/

/-- TRIPPING from a closed state for an open request (R56). -/
def State.openTrip (cause : TripCauses) (s : State) : State :=
  ((s.setPhase .tripping).onSeq fun q =>
    { q.stopTimers with causes := cause, hotMark := q.hotLine }).tellDemanded.tripRequest

/-- R56: an open request in TRIPPING or RECLOSING, where its cause joins the trip in hand or the held causes. -/
def State.joinTrip (cause : TripCauses) (s : State) : State :=
  (s.onSeq fun q => { q with causes := q.causes.join cause }).tripRequest

def State.holdTrip (cause : TripCauses) (s : State) : State :=
  (s.onSeq fun q => { q with heldCauses := q.heldCauses.join cause }).tripRequest

/-- The cause of a commanded open. -/
def manualCause : TripCauses := { TripCauses.none with manual := true }

/-- R56: a commanded open by the sequence state. -/
def State.commandOpen (s : State) : State :=
  match s.seq.phase with
  | .ready | .timing | .reclaim => s.openTrip manualCause
  | .tripping => s.joinTrip manualCause
  | .reclosing => s.holdTrip manualCause
  | .dead | .rechargeWait => s.enterLockout .manual none
  | .lockout => if s.role = .tie then s.enterStandby else s
  | .standby => s

/-- R43: an event start by a Feeder Coordinator open, when none is open. -/
def State.startOpenEvent (s : State) : State :=
  if s.seq.event.isSome then s else (s.startEvent).onOc Oc.clearForEvent

/-- R56: a Feeder Coordinator open by the sequence state, an event starting first where none is open (R43). DEDUCED (log entry
49): it starts in TRIPPING and RECLOSING too, which R43 covers and the table of R56 does not name. -/
def State.coordinatorOpen (cause : TripCauses) (s : State) : State :=
  match s.seq.phase with
  | .ready | .timing | .reclaim => s.startOpenEvent.openTrip cause
  | .tripping => s.startOpenEvent.joinTrip cause
  | .reclosing => s.startOpenEvent.holdTrip cause
  | .dead | .rechargeWait | .lockout | .standby => s

end Sys2Proof.Machine
end

