-- ==== Sys2Proof/Machine/Coordinator.lean ====
section
/-! DEFINITION. The Feeder Coordinator (chapter 8): voltage-loss logic, the count reset timer, tie restore, FAULT notices,
and what it does with FAULT and ISOLATE reports. -/

namespace Sys2Proof.Machine

/-! ## Voltage-loss logic (R148 to R151) -/

/-- The conditions of R148 on role, position and sequence state, of this moment. -/
def State.lossStation (s : State) : Bool :=
  s.role = .midpoint && !s.defaulted && s.mech.position = .closed && s.seq.phase.isClosed

/-- R148: the publication carries a loss, judged by the state at the change of presence. -/
def Publication.isLoss (p : Publication) : Bool := p.srcWas = .live && p.src = .dead && p.sound && p.lossRuns

/-- The last pickup time as of a publication: the one held now, unless a later block has replaced it, for which the one
held at the publication stands in (log entry 32). -/
def State.pickupBefore (s : State) (p : Publication) : Option Nat :=
  match s.oc.lastPickup with
  | some t => if t ≤ p.time then some t else p.lastPickup
  | none => p.lastPickup

/-- R148: the last pickup time is no more than the section window before the loss. -/
def State.lossPickedUp (s : State) (p : Publication) : Bool :=
  (s.pickupBefore p).any fun t => p.time ≤ t + s.cfg.coordination.sectionWindow

/-- R149: a picked-up loss of a non-protective MIDPOINT. -/
def State.countSectionalize (s : State) : State :=
  let setting := s.cfg.coordination.sectionalizeCount
  let s1 := s.onSeq fun q => { q with sectionalizeCount := min (q.sectionalizeCount + 1) setting }
  if setting ≤ s1.seq.sectionalizeCount then s1.coordinatorOpen { TripCauses.none with sectionalize := true } else s1

/-- R150, R151: a clear loss counts. -/
def State.countIsolate (s : State) : State :=
  let setting := s.cfg.coordination.isolateCount
  let s1 :=
    (s.onSeq fun q => { q with isolateCount := min (q.isolateCount + 1) setting }).onCoord fun c =>
      { c with pendingLoss := none }
  if setting ≤ s1.seq.isolateCount then s1.coordinatorOpen { TripCauses.none with isolate := true } else s1

/-- R150: a supporting report for a loss at a time. -/
def State.supported (s : State) (time : Nat) : Bool :=
  s.peers.held.any fun p =>
    p.freshness ≠ .lost && s.upstream p &&
      p.fault.any fun f => time ≤ f.heard + s.cfg.coordination.isolateWindow

/-- R148 to R150: a loss is taken once, by its kind. -/
def State.takeLoss (p : Publication) (s : State) : State :=
  if s.lossPickedUp p then if s.protective then s else s.countSectionalize
  else if s.supported p.time then s.countIsolate
  else s.onCoord fun c => { c with pendingLoss := some p.time }

/-- R151: a FAULT report of an upstream adjacent peer, heard now, meets the pending loss. -/
def State.matchLoss (p : Peer) (s : State) : State :=
  match s.coord.pendingLoss with
  | some t =>
    if s.upstream p && s.now ≤ t + s.cfg.coordination.isolateWindow then
      if s.lossStation && s.meas.state = .sound then s.countIsolate else s.onCoord fun c => { c with pendingLoss := none }
    else s
  | none => s

/-! ## Timers of the working state (R152, R155) -/

/-- R152, R155 at a change of presence: a source away from LIVE stops the count reset timer, and the end of the tie
delay condition stops that timer. -/
def State.stopCoordTimers (s : State) : State :=
  let live := s.meas.src.presence = .live
  let side := s.tieDeadSide
  s.onCoord fun c =>
    { c with
      countReset := if live then c.countReset else none
      tie := c.tie.filter fun t => side = some t.deadIsSource }

/-- R152: a change of the source presence to LIVE starts the count reset timer. -/
def State.startCountReset (p : Publication) (s : State) : State :=
  if p.srcWas ≠ .live && p.src = .live && s.meas.src.presence = .live then
    s.onCoord fun c => { c with countReset := some 0 }
  else s

/-- R152: the source has been LIVE for the reclaim time. -/
def State.resetCounts (s : State) : State :=
  (s.onSeq fun q => { q with sectionalizeCount := 0, isolateCount := 0 }).onCoord fun c =>
    { c with pendingLoss := none, countReset := none }

/-- COUNT_RESET_TIMER_EXPIRY (R152). -/
def execCountResetTimerExpiry (s : State) : Host.Outcome State Fault Refusal :=
  act (when (due s.coord.countReset (s.cfg.sequence.reclaim * 1000)) State.resetCounts) s

/-! ## Tie restore (R155 to R157) -/

/-- The segment of a dead side. -/
def State.deadSegment (s : State) (deadIsSource : Bool) : Nat :=
  if deadIsSource then s.cfg.identity.sourceSegment else s.cfg.identity.loadSegment

/-- R156: the record's isolation report qualifies for a dead side. -/
def State.qualifies (s : State) (deadIsSource : Bool) (p : Peer) : Bool :=
  p.freshness ≠ .lost &&
    p.isolation.any fun r =>
      sameSegment r.cutOff (s.deadSegment deadIsSource) && !r.superseded &&
        s.now ≤ r.heard + s.cfg.coordination.validity * 60000

/-- R156: while the delay is served, a qualifying report asks a restore close. -/
def State.checkRestore (s : State) : State :=
  match s.coord.tie with
  | some t =>
    if t.served && s.tieDeadSide = some t.deadIsSource && s.peers.held.any (s.qualifies t.deadIsSource) then
      s.commandClose .restore
    else s
  | none => s

/-- R155: the tie delay is served. -/
def State.serveTie (s : State) : State :=
  (s.onCoord fun c => { c with tie := c.tie.map fun t => { t with served := true } }).checkRestore

/-- TIE_DELAY_SERVED (R155, R156). -/
def execTieDelayServed (s : State) : Host.Outcome State Fault Refusal :=
  act (when (s.coord.tie.any fun t => !t.served && s.cfg.coordination.tieDelay * 1000 ≤ t.elapsed) State.serveTie) s

/-! ## A block publication at the Feeder Coordinator -/

/-- COORDINATOR_BLOCK's work on one publication. -/
def State.coordinate (p : Publication) (s : State) : State :=
  let s1 := if p.isLoss then s.takeLoss p else s
  ((s1.startCountReset p).reviewTie).checkRestore

def State.coordinatorBlock (s : State) : State :=
  match s.mail.coordinator with
  | [] => s
  | p :: rest => (s.onMail fun m => { m with coordinator := rest }).coordinate p

/-- COORDINATOR_BLOCK (R148). -/
def execCoordinatorBlock (s : State) : Host.Outcome State Fault Refusal := act State.coordinatorBlock s

/-! ## Notices and reports (R146, R147, R154) -/

/-- The next passage indication waiting becomes a FAULT notice (R147). -/
def State.passageIndication (s : State) : State :=
  match s.mail.passages with
  | [] => s
  | x :: rest => (s.onMail fun m => { m with passages := rest }).offerNotice .fault (s.faultPayload x)

/-- PASSAGE_INDICATION (R38, R147). -/
def execPassageIndication (s : State) : Host.Outcome State Fault Refusal := act State.passageIndication s

/-- R146, R151: a FAULT report taken, with the record as the frame has left it. -/
def State.takeFaultReport (p : Peer) (s : State) : State :=
  let blocked := if s.blockingPeer p then s.fastBlock else s
  blocked.matchLoss p

/-- R154, R156: an ISOLATE report taken, with the record as the frame has left it. -/
def State.takeIsolationReport (p : Peer) (faulted : Nat) (s : State) : State :=
  let shortened := if s.downstream p && faulted ≠ s.cfg.identity.loadSegment then s.shortenDeadTime else s
  shortened.checkRestore

end Sys2Proof.Machine
end

