-- ==== Sys2Proof/Machine/Tags.lean ====
section
/-! DEFINITION. The Tag Unit (chapter 9): local and feeder tag tables, hot-line conditions, the panel, and the taking of
asks, TAG and RECALL payloads and tag lists. -/

namespace Sys2Proof.Machine

/-! ## Hot-line conditions (R165) -/

/-- A present local tag of kind HOT-LINE. -/
def Tags.localHotLine (t : Tags) : Bool := t.slots.any fun x => x.tag.any fun y => y.kind = .hotLine

/-- A feeder HOT-LINE tag that names a segment holding a condition here. -/
def State.hotLineFrom (s : State) (t : FeederTag) : Bool :=
  t.kind = .hotLine &&
    (sameSegment t.segment s.cfg.identity.loadSegment ||
      (s.role = .tie && sameSegment t.segment s.cfg.identity.sourceSegment))

/-- A hot-line condition holds (R165). -/
def State.hotLineCondition (s : State) : Bool :=
  s.tags.localHotLine || s.tags.feeder.any fun x => x.any s.hotLineFrom

/-- The conditions evaluated again after a change of a table (R165). -/
def State.reviewHotLine (s : State) : State :=
  if s.hotLineCondition then s.hotLineBegin else s.hotLineEnd

/-! ## Local tag table (R160, R161) -/

def Tags.slot (t : Tags) (n : Nat) : LocalSlot := t.slots.getD n ⟨none, 0⟩

def Tags.setSlot (n : Nat) (x : LocalSlot) (t : Tags) : Tags := { t with slots := t.slots.set n x }

/-- A placement in a slot: the counter increments and gives the generation (R160). -/
def State.placeLocal (n : Nat) (kind : TagKind) (scope : Scope) (crewId grade : Nat) (s : State) : State :=
  let generation := ((s.tags.slot n).counter + 1) % 256
  let tag : LocalTag :=
    { kind, scope, crewId, grade, generation, placed := s.secs, blocked := 0, recalled := false }
  let placed := s.onTags (Tags.setSlot n ⟨some tag, generation⟩)
  (placed.offerNotice .tag (tagPayload false (s.localItem n tag))).reviewHotLine

/-- A removal from a slot, which keeps its counter; an absent slot gives nothing to remove (R160, R173). -/
def State.removeLocal (n : Nat) (s : State) : State :=
  match (s.tags.slot n).tag with
  | some tag =>
    let removed := s.onTags (Tags.setSlot n ⟨none, (s.tags.slot n).counter⟩)
    (removed.offerNotice .tag (tagPayload true (s.localItem n tag))).reviewHotLine
  | none => s

/-- A panel grade as a number. -/
def gradeOfPanel : PanelGrade → Nat
  | .one => 1
  | .two => 2
  | .three => 3
  | .four => 4

/-- R161: the key is taken as turned, with the panel grade read at that moment. -/
def State.turnKey (on : Bool) (s : State) : State :=
  let turned := s.onTags fun t => { t with keyOn := on, keyInput := t.keyInput.settle panelFilter }
  if on then turned.placeLocal 0 .hotLine .station 0 (gradeOfPanel s.tags.panelGrade) else turned.removeLocal 0

/-- The raw level of the key and the crew-grade setting looked at (R161). -/
def Tags.seeKey (on : Bool) (held : Nat) (grade : PanelGrade) (t : Tags) : Tags :=
  { t with keyInput := t.keyInput.see on held t.keyOn, panelGrade := grade }

/-- R161: a key level that has held for the panel filter time is taken. -/
def State.takeKey (s : State) : State :=
  if s.tags.keyInput.ripe panelFilter then s.turnKey s.tags.keyInput.level else s

/-- HOT_LINE_KEY (R161): the level of the key and the panel grade, the key taken once its level has held; one that had held
before the level now there began to stand is taken first, with the grade last read (log entry 9). -/
def execHotLineKey (on : Bool) (held : Nat) (grade : PanelGrade) (s : State) : Host.Outcome State Fault Refusal :=
  actAfter (s.tags.keyInput.missed panelFilter held s.tags.keyOn) State.takeKey
    (fun s1 => (s1.onTags (Tags.seeKey on held grade)).takeKey) s

/-! ## Buttons (R162) -/

/-- A button as the panel intake keeps it: its input and its filtered level. -/
def Tags.button (b : Button) (t : Tags) : Input × Bool :=
  match b with
  | .openButton => (t.openInput, t.openPressed)
  | .closeButton => (t.closeInput, t.closePressed)
  | .confirmButton => (t.confirmInput, t.confirmPressed)

def Tags.setButton (b : Button) (input : Input) (pressed : Bool) (t : Tags) : Tags :=
  match b with
  | .openButton => { t with openInput := input, openPressed := pressed }
  | .closeButton => { t with closeInput := input, closePressed := pressed }
  | .confirmButton => { t with confirmInput := input, confirmPressed := pressed }

/-- A button's raw level looked at (R162). -/
def Tags.seeButton (b : Button) (level : Bool) (held : Nat) (t : Tags) : Tags :=
  t.setButton b ((t.button b).1.see level held (t.button b).2) (t.button b).2

/-- R171: TAGS UNCONFIRMED cleared, and a clear request to the Mechanism Driver. -/
def State.confirm (s : State) : State := (s.onTags fun t => { t with unconfirmed := false }).clearJammed

/-- What a button asks when its filtered level changes to pressed (R162): OPEN a commanded open, CLOSE a commanded close of
requester PANEL, CONFIRM the clearing of R171. -/
def State.buttonRequest : Button → State → State
  | .openButton => State.commandOpen
  | .closeButton => State.commandClose .panel
  | .confirmButton => State.confirm

/-- A button's level that has held for the panel filter time is taken, with its request on a change to pressed (R161,
R162). -/
def State.takeButton (b : Button) (s : State) : State :=
  let input := (s.tags.button b).1
  let level := input.filtered panelFilter (s.tags.button b).2
  let taken := s.onTags (Tags.setButton b (input.settle panelFilter) level)
  if level && !(s.tags.button b).2 then taken.buttonRequest b else taken

/-- A button's level looked at, and taken once it has held (R162, log entry 9). -/
def lookButton (b : Button) (level : Bool) (held : Nat) (s : State) : Host.Outcome State Fault Refusal :=
  actAfter ((s.tags.button b).1.missed panelFilter held (s.tags.button b).2) (State.takeButton b)
    (fun s1 => (s1.onTags (Tags.seeButton b level held)).takeButton b) s

/-- OPEN_BUTTON (R162): seen as pressed. -/
def execOpenButton (held : Nat) (s : State) : Host.Outcome State Fault Refusal :=
  lookButton .openButton true held s

/-- CLOSE_BUTTON (R162): seen as pressed. -/
def execCloseButton (held : Nat) (s : State) : Host.Outcome State Fault Refusal :=
  lookButton .closeButton true held s

/-- CONFIRM_BUTTON (R162, R171): seen as pressed. -/
def execConfirmButton (held : Nat) (s : State) : Host.Outcome State Fault Refusal :=
  lookButton .confirmButton true held s

/-- BUTTON_RELEASE (R162): a button's level seen as released. -/
def execButtonRelease (button : Button) (held : Nat) (s : State) : Host.Outcome State Fault Refusal :=
  lookButton button false held s

/-! ## Feeder tag table (R163, R173, R174) -/

def FeederTag.isOf (holder number : Nat) (t : FeederTag) : Bool := t.holder = holder && t.number = number

/-- The entry of a holder's tag number. -/
def Tags.entry (t : Tags) (holder number : Nat) : Option FeederTag :=
  (t.feeder.filterMap id).find? (FeederTag.isOf holder number)

/-- An item as a fresh entry of its holder: ORPHAN clear, blocked count 0. -/
def TagItem.entry (holder : Nat) (i : TagItem) : FeederTag :=
  { holder, number := i.number, generation := i.generation, kind := i.kind, scope := scopeOfCode i.scopeCode
    segment := i.segment, grade := i.grade, crewId := i.crewId, orphan := false, blocked := 0 }

/-- An entry as an item (R176). -/
def FeederTag.item (t : FeederTag) : TagItem :=
  { number := t.number, kind := t.kind, scopeCode := t.scope.code, grade := t.grade, generation := t.generation
    segment := t.segment, crewId := t.crewId }

/-- Entries that meet a test changed, or removed, in place. -/
def changeEntries (p : FeederTag → Bool) (f : FeederTag → Option FeederTag) (l : List (Option FeederTag)) :
    List (Option FeederTag) :=
  l.map fun x => x.bind fun t => if p t then f t else some t

/-- An entry put at the lowest free index, if there is one. -/
def insertEntry (t : FeederTag) : List (Option FeederTag) → Option (List (Option FeederTag))
  | [] => none
  | none :: rest => some (some t :: rest)
  | some x :: rest => (insertEntry t rest).map (some x :: ·)

/-- One listed item taken against its entry; the flag says that it was refused for want of an index (R173, R174). -/
def Tags.takeItem (holder : Nat) (listed : Bool) (i : TagItem) (t : Tags) : Tags × Bool :=
  match t.entry holder i.number with
  | some e =>
    if e.generation = i.generation then
      if listed then
        ({ t with
           feeder := changeEntries (FeederTag.isOf holder i.number) (fun x => some { x with orphan := false })
             t.feeder }, false)
      else (t, false)
    else
      ({ t with
         feeder := changeEntries (FeederTag.isOf holder i.number) (fun _ => some (i.entry holder)) t.feeder }, false)
  | none =>
    match insertEntry (i.entry holder) t.feeder with
    | some feeder => ({ t with feeder }, false)
    | none => (t, true)

/-- The listed items of a reconciliation in turn; the flag says that some item was refused (R174). DESIGN CHOICE (log
entry 42): new items take the free indices in the order in which the list sends them. -/
def Tags.takeItems (holder : Nat) : List TagItem → Tags → Tags × Bool
  | [], t => (t, false)
  | i :: rest, t =>
    let (t1, refused) := t.takeItem holder true i
    let (t2, more) := Tags.takeItems holder rest t1
    (t2, refused || more)

/-- TAG OVERFLOW set, with its cause raised on the change from clear (R174). -/
def State.setOverflow (s : State) : State :=
  (s.raiseIf (!s.tags.overflow) .tagOverflow).onTags fun t => { t with overflow := true }

/-- R174: a holder's list reconciled; a STATE carrying RESTARTED leaves its entries as they are. -/
def State.reconcile (holder : Nat) (restarted : Bool) (items : List TagItem) (s : State) : State :=
  if restarted then s
  else
    let unlisted : FeederTag → Bool := fun t => t.holder = holder && !items.any (·.number = t.number)
    let pruned := { s.tags with feeder := changeEntries unlisted (fun _ => none) s.tags.feeder }
    let (tags, refused) := pruned.takeItems holder items
    let s1 := s.onTags fun _ => tags
    let s2 := if refused then s1.setOverflow else s1.onTags fun t => { t with overflow := false }
    s2.reviewHotLine

/-- R164 for a TAG payload of 6 bytes (log entry 14). -/
def tagOk (payload : List Byte) : Bool := payload.length = 6 && itemsOk [itemAt payload 1]

/-- A payload refused by R164 (R178). -/
def State.refuseTagPayload (s : State) : State :=
  s.onTags fun t => { t with payloadsRefused := sat16 t.payloadsRefused }

/-- R173: a TAG PLACED from a holder. -/
def State.tagPlaced (holder : Nat) (i : TagItem) (s : State) : State :=
  let (tags, refused) := s.tags.takeItem holder false i
  let s1 := s.onTags fun _ => tags
  (if refused then s1.setOverflow else s1).reviewHotLine

/-- R173: a TAG REMOVED from a holder is taken only for the same generation. -/
def State.tagRemoved (holder : Nat) (i : TagItem) (s : State) : State :=
  (s.onTags fun t =>
    { t with
      feeder := changeEntries (fun e => e.isOf holder i.number && e.generation = i.generation) (fun _ => none)
        t.feeder }).reviewHotLine

/-- R173: a TAG payload taken. -/
def State.takeTag (holder : Nat) (payload : List Byte) (s : State) : State :=
  if tagOk payload then
    let i := itemAt payload 1
    if bitSet (byteAt payload 0) 7 then s.tagRemoved holder i else s.tagPlaced holder i
  else s.refuseTagPayload

/-- R175: every entry of a lost peer is marked ORPHAN. -/
def State.orphan (holder : Nat) (s : State) : State :=
  s.onTags fun t =>
    { t with
      feeder := changeEntries (fun e => e.holder = holder) (fun e => some { e with orphan := true }) t.feeder }

/-! ## Recall (R176, R177) -/

/-- The entries of a holder as items, in ascending order of tag number (R176). -/
def Tags.itemsOf (t : Tags) (holder : Nat) : List TagItem :=
  [0, 1, 2, 3, 4, 5, 6, 7].filterMap fun n => (t.entry holder n).map FeederTag.item

/-- R176: a RECALL addressed to a peer that has restarted, when entries of it are held. -/
def State.offerRecall (holder : Nat) (s : State) : State :=
  let items := s.tags.itemsOf holder
  if items.isEmpty then s else s.offerNotice .recall (recallPayload holder items)

/-- The items of a RECALL payload. -/
def recallItems (payload : List Byte) : List TagItem := itemsAt payload 3 (byteAt payload 2)

/-- R164 for a RECALL payload of 3 + 5n bytes, n at most 8 (log entry 14). -/
def recallOk (payload : List Byte) : Bool :=
  3 ≤ payload.length && payload.length = 3 + 5 * byteAt payload 2 && byteAt payload 2 ≤ 8 &&
    itemsOk (recallItems payload)

/-- R177: one item of a RECALL at its target. DESIGN CHOICE (log entry 43): a filled tag's segment is the one that its scope
gives under the settings in use, whatever the item's is. -/
def Tags.recallItem (secs : Nat) (t : Tags) (i : TagItem) : Tags :=
  if i.number = 0 then t
  else
    match (t.slot i.number).tag with
    | none =>
      t.setSlot i.number
        ⟨some
            { kind := i.kind, scope := scopeOfCode i.scopeCode, crewId := i.crewId, grade := i.grade
              generation := i.generation, placed := secs, blocked := 0, recalled := true },
          i.generation⟩
    | some tag => if tag.generation = i.generation then t else { t with recallConflicts := sat16 t.recallConflicts }

/-- R164, R177: a RECALL payload taken. -/
def State.takeRecall (payload : List Byte) (s : State) : State :=
  if !recallOk payload then s.refuseTagPayload
  else if u16At payload 0 ≠ s.cfg.identity.address then s
  else if !s.tags.unconfirmed then s.onTags fun t => { t with recallsIgnored := sat16 t.recallsIgnored }
  else (s.onTags fun t => (recallItems payload).foldl (Tags.recallItem s.secs) t).reviewHotLine

/-! ## Crew asks (R166 to R172) -/

/-- A selector: the table (FEEDER when set) and the index of an operand (R167). -/
structure Selector where
  feeder : Bool
  index : Nat
  deriving DecidableEq, Repr

def selectorOf (operand : Nat) : Selector := ⟨bitSet operand 7, bits operand 0 5⟩

/-- The selector as an answer carries it; unused bits are 0. -/
def Selector.code (x : Selector) : Nat := flag x.feeder 128 + x.index

/-- R167: BAD SELECTOR for an index beyond its table, NO TAG for one that is not present. -/
def State.selectorFault (s : State) (x : Selector) : Option AskResult :=
  if (if x.feeder then 23 < x.index else 7 < x.index) then some .badSelector
  else if x.feeder then (if (s.tags.feeder.getD x.index none).isNone then some .noTag else none)
  else if (s.tags.slot x.index).tag.isNone then some .noTag
  else none

/-- The lowest absent slot among 1..7 (R168). -/
def Tags.freeSlot (t : Tags) : Option Nat := [1, 2, 3, 4, 5, 6, 7].find? fun n => (t.slot n).tag.isNone

/-- R168: PLACE. -/
def State.askPlace (crewId grade operand : Nat) (s : State) : AskAnswer × State :=
  let kind := tagKindOfBit (bitSet operand 7)
  let scope := scopeOfCode (bits operand 4 2)
  if s.tags.unconfirmed then (.plain .unconfirmed 0, s)
  else if scope ≠ .station && s.scopeSegment scope = 0 then (.plain .badAsk 0, s)
  else if kind = .holdOpen && s.mech.position ≠ .opened then (.plain .notOpen 0, s)
  else
    match s.tags.freeSlot with
    | none => (.plain .tableFull 0, s)
    | some n => (.plain .accepted n, s.placeLocal n kind scope crewId grade)

/-- R169: REMOVE. -/
def State.askRemove (crewId grade operand : Nat) (s : State) : AskAnswer × State :=
  let x := selectorOf operand
  if x.feeder then (.plain .notHolder x.code, s)
  else
    match s.selectorFault x with
    | some r => (.plain r x.code, s)
    | none =>
      if x.index = 0 then (.plain .panelHeld x.code, s)
      else if (s.tags.slot x.index).tag.any fun t => t.grade ≤ grade || t.crewId = crewId then
        (.plain .accepted x.code, s.removeLocal x.index)
      else (.plain .grade x.code, s)

/-- R170: an entry leaves the feeder tag table. -/
def State.clearEntry (index : Nat) (s : State) : State :=
  (s.onTags fun t => { t with feeder := t.feeder.set index none }).reviewHotLine

/-- R170: CLEAR ORPHAN. -/
def State.askClearOrphan (grade operand : Nat) (s : State) : AskAnswer × State :=
  let x := selectorOf operand
  match s.selectorFault x with
  | some r => (.plain r x.code, s)
  | none =>
    match (if x.feeder then s.tags.feeder.getD x.index none else none) with
    | some e =>
      if !e.orphan then (.plain .notOrphan x.code, s)
      else if max s.cfg.crew.orphanGrade e.grade ≤ grade then (.plain .accepted x.code, s.clearEntry x.index)
      else (.plain .grade x.code, s)
    | none => (.plain .notOrphan x.code, s)

def ClearAnswer.code : ClearAnswer → Nat
  | .cleared => 1
  | .notCleared => 2
  | .notJammed => 3

/-- R171: CONFIRM. -/
def State.askConfirm (grade : Nat) (s : State) : AskAnswer × State :=
  if grade < 2 then (.plain .grade 0, s) else (⟨.accepted, 0, s.clearAnswer.code, 0⟩, s.confirm)

/-- R172: OPEN. -/
def State.askOpen (grade : Nat) (s : State) : AskAnswer × State :=
  if grade < s.cfg.crew.operateGrade then (.plain .grade 0, s) else (.plain .accepted 0, s.commandOpen)

/-- R172: CLOSE. -/
def State.askClose (grade : Nat) (s : State) : AskAnswer × State :=
  if grade < s.cfg.crew.operateGrade then (.plain .grade 0, s)
  else
    let answer : AskAnswer :=
      match s.closeAnswer .crew with
      | .accepted => .plain .accepted 0
      | .gate r => ⟨.gate, 0, r.code, 0⟩
      | .wrongState => .plain .wrongState 0
    (answer, s.commandClose .crew)

/-- The present local tags. -/
def Tags.present (t : Tags) : List LocalTag := t.slots.filterMap LocalSlot.tag

/-- R172: STATUS. -/
def State.askStatus (s : State) : AskAnswer × State :=
  (⟨.accepted, 0, s.mech.position.code * 64 + flag s.seq.hotLine 32 + s.tags.present.length,
      s.seqState.code * 16 + (s.tags.present.filter LocalTag.recalled).length⟩, s)

/-- R168 to R172: an ask taken by its kind. -/
def State.askByKind (kind : AskKind) (crewId grade operand : Nat) (s : State) : AskAnswer × State :=
  match kind with
  | .place => s.askPlace crewId grade operand
  | .remove => s.askRemove crewId grade operand
  | .clearOrphan => s.askClearOrphan grade operand
  | .confirm => s.askConfirm grade
  | .openAsk => s.askOpen grade
  | .closeAsk => s.askClose grade
  | .status => s.askStatus

/-- R166, step 3: the kind of an ask that passes the form check. -/
def askForm (payload : List Byte) : Option AskKind :=
  if payload.length ≠ 7 then none
  else if byteAt payload 5 < 1 ∨ 4 < byteAt payload 5 then none
  else
    match askKindOfCode (byteAt payload 4) with
    | some .place => if bits (byteAt payload 6) 4 2 = 3 then none else some .place
    | kind => kind

/-- R166, step 3: the ask kind that a BAD ASK answer carries. -/
def badAskCode (payload : List Byte) : Nat :=
  if 5 ≤ payload.length ∧ byteAt payload 4 ≤ 15 then byteAt payload 4 else 15

/-- The selector of an ask that names a tag: REMOVE and CLEAR ORPHAN (R167). -/
def AskKind.selectorOf (kind : AskKind) (operand : Nat) : Nat :=
  match kind with
  | .remove | .clearOrphan => (Machine.selectorOf operand).code
  | .place | .confirm | .openAsk | .closeAsk | .status => 0

/-- R166, step 4: the effective grade of a roster member. -/
def State.effectiveGrade (s : State) (crewId requested : Nat) : Option Nat :=
  (s.cfg.crew.roster.find? (·.crewId = crewId)).map fun e => min e.grade requested

/-- R167: the selector that a BAD ASK answer carries: that of an ask which reads as a REMOVE or a CLEAR ORPHAN (log entry 18). -/
def badAskSelector (payload : List Byte) : Nat :=
  if payload.length = 7 then ((askKindOfCode (byteAt payload 4)).map fun k => k.selectorOf (byteAt payload 6)).getD 0 else 0

/-- R166, steps 3 to 5: the answer's kind code, the answer, and the state after it. -/
def State.answerAsk (payload : List Byte) (s : State) : Nat × AskAnswer × State :=
  match askForm payload with
  | none => (badAskCode payload, .plain .badAsk (badAskSelector payload), s)
  | some kind =>
    match s.effectiveGrade (u16At payload 2) (byteAt payload 5) with
    | none => (kind.code, .plain .notCrew (kind.selectorOf (byteAt payload 6)), s)
    | some grade => (kind.code, s.askByKind kind (u16At payload 2) grade (byteAt payload 6))

/-- R166: a CREW ASK of a handset. DESIGN CHOICE (log entry 41): a TAG notice of the ask joins the outbox before the
CREW ANSWER. -/
def State.takeAsk (handset seqNo : Nat) (payload : List Byte) (s : State) : State :=
  if 2 ≤ payload.length ∧ u16At payload 0 ≠ s.cfg.identity.address then s
  else
    match s.tags.dedupe.find? fun a => a.handset = handset && a.seqNo = seqNo with
    | some a =>
      (s.onTags fun t => { t with duplicateAsks := sat16 t.duplicateAsks }).offerNotice .crewAnswer a.answer
    | none =>
      let (kindCode, answer, after) :=
        (s.onTags fun t => { t with asksTaken := sat16 t.asksTaken }).answerAsk payload
      let bytes := answerPayload handset seqNo kindCode answer
      (after.onTags fun t =>
        { t with dedupe := ({ handset, seqNo, answer := bytes } :: t.dedupe).take recentLength }).offerNotice
          .crewAnswer bytes

end Sys2Proof.Machine
end

