-- ==== Sys2Proof/Machine/Peers.lean ====
section
/-! DEFINITION. Received frames (R118 to R122) and the Peer Table (8.1 to 8.4): checking, admission, what each kind writes,
freshness, and the commands of these rows. -/

namespace Sys2Proof.Machine

/-! ## Records (R135 to R140) -/

/-- The slot of an address. -/
def PeerTable.slotOf (t : PeerTable) (address : Nat) : Option Nat :=
  t.slots.findIdx? fun x => x.any fun p => p.address = address

def PeerTable.peerAt (t : PeerTable) (slot : Nat) : Option Peer := t.slots.getD slot none

def PeerTable.setPeer (slot : Nat) (p : Option Peer) (t : PeerTable) : PeerTable :=
  { t with slots := t.slots.set slot p }

/-- A record changed in its slot. -/
def PeerTable.change (slot : Nat) (f : Peer → Peer) (t : PeerTable) : PeerTable :=
  t.setPeer slot ((t.peerAt slot).map f)

/-- R121: the sequence number placed first, at most 4 held. -/
def pushSeq (seqNo : Nat) (set : List Nat) : List Nat := (seqNo :: set).take recentLength

/-- R121, R136: an accepted frame refreshes its sender's record. -/
def Peer.refresh (now : Nat) (f : RxFrame) (p : Peer) : Peer :=
  let set := if rxRestarted f && !p.restarted then [] else p.sequenceSet
  { p with
    freshness := .fresh, lastHeard := now, sequenceSet := pushSeq f.seqNo.toNat set, restarted := rxRestarted f
    economyHeard := rxEconomy f }

/-- R136, R139: a new record. -/
def State.newPeer (f : RxFrame) (s : State) : Peer where
  address := f.sender.toNat
  identity := none
  freshness := .fresh
  interval := s.cfg.radio.heartbeat * 1000 * 16
  provisional := true
  lastHeard := s.now
  sequenceSet := [f.seqNo.toNat]
  restarted := rxRestarted f
  economyHeard := rxEconomy f
  lastState := none
  fault := none
  isolation := none

/-- R140: a peer lost. -/
def State.peerLost (address : Nat) (s : State) : State := (s.raise .peerLost).orphan address

/-- The slot, with `k` the slot of the list's head, of the record with the earliest last-heard time among those that
meet a test; the lower slot on equal times (R137). -/
def earliestSlot (test : Peer → Bool) (k : Nat) : List (Option Peer) → Option (Nat × Nat)
  | [] => none
  | x :: rest =>
    let later := earliestSlot test (k + 1) rest
    match x with
    | some p =>
      if test p then
        match later with
        | some (j, t) => if t < p.lastHeard then some (j, t) else some (k, p.lastHeard)
        | none => some (k, p.lastHeard)
      else later
    | none => later

/-- R137: the record that a newcomer evicts. -/
def State.evictee (adjacent : Bool) (s : State) : Option Nat :=
  match earliestSlot (fun p => p.freshness = .lost) 0 s.peers.slots with
  | some (slot, _) => some slot
  | none =>
    if adjacent then (earliestSlot (fun p => !s.adjacent p) 0 s.peers.slots).map Prod.fst else none

/-- R137: a slot's record is evicted; one that was not LOST is a peer lost. -/
def State.evict (slot : Nat) (s : State) : State :=
  let counted := s.onPeers fun t => { t.setPeer slot none with evictions := sat16 t.evictions }
  match s.peers.peerAt slot with
  | some p => if p.freshness = .lost then counted else counted.peerLost p.address
  | none => counted

/-- How a frame's sender stands after admission (R136 to R138). -/
structure Admission where
  slot : Option Nat
  restartHeard : Bool
  state : State
  deriving DecidableEq, Repr

/-- R136, R137: the sender's record refreshed or made, or the newcomer refused. -/
def State.admitSender (f : RxFrame) (adjacent : Bool) (s : State) : Admission :=
  match s.peers.slotOf f.sender.toNat with
  | some slot =>
    let transition := rxRestarted f && (s.peers.peerAt slot).any fun p => !p.restarted
    { slot := some slot, restartHeard := transition
      state := s.onPeers (PeerTable.change slot (Peer.refresh s.now f)) }
  | none =>
    let place : Option Nat × State :=
      match s.peers.slots.findIdx? Option.isNone with
      | some slot => (some slot, s)
      | none =>
        match s.evictee adjacent with
        | some slot => (some slot, s.evict slot)
        | none => (none, s)
    match place with
    | (some slot, s1) =>
      { slot := some slot, restartHeard := rxRestarted f
        state := s1.onPeers (PeerTable.setPeer slot (some (s1.newPeer f))) }
    | (none, s1) =>
      { slot := none, restartHeard := false
        state := s1.onPeers fun t => { t with tableFull := sat16 t.tableFull } }

/-- PEER_STALE (R139): a FRESH record whose elapsed time has reached 3 stated intervals. -/
def State.staleDue (s : State) (slot : Nat) : Bool :=
  (s.peers.peerAt slot).any fun p => p.freshness = .fresh && p.lastHeard + 3 * p.interval ≤ s.now

def State.makeStale (slot : Nat) (s : State) : State :=
  s.onPeers (PeerTable.change slot fun p => { p with freshness := .stale })

def execPeerStale (slot : Fin 16) (s : State) : Host.Outcome State Fault Refusal :=
  act (when (s.staleDue slot) (State.makeStale slot)) s

/-- PEER_LOST (R139, R140): a STALE record whose elapsed time has reached 8 stated intervals. -/
def State.lostDue (s : State) (slot : Nat) : Bool :=
  (s.peers.peerAt slot).any fun p => p.freshness = .stale && p.lastHeard + 8 * p.interval ≤ s.now

def State.makeLost (slot : Nat) (s : State) : State :=
  let changed := s.onPeers (PeerTable.change slot fun p => { p with freshness := .lost })
  match s.peers.peerAt slot with
  | some p => changed.peerLost p.address
  | none => changed

def execPeerLost (slot : Fin 16) (s : State) : Host.Outcome State Fault Refusal :=
  act (when (s.lostDue slot) (State.makeLost slot)) s

/-! ## Receiving and checking (R119 to R122) -/

/-- A frame is in hand: the receive state is FRAME and its inputs are looked at (R114, R118). -/
def State.inFrame (s : State) : Bool := s.radio.hears && s.radio.rx = .frame

/-- The outcomes of the checks of R120 and R121. -/
inductive FrameCheck where
  | refused | conflict | duplicate | accepted
  deriving DecidableEq, Repr

/-- R121: a frame of a kind other than CREW ASK is a duplicate. -/
def State.isDuplicate (s : State) (f : RxFrame) : Bool :=
  s.peers.held.any fun p =>
    p.address = f.sender.toNat && !(rxRestarted f && !p.restarted) && p.sequenceSet.contains f.seqNo.toNat

/-- R120: the first check that fails decides. -/
def State.checkFrame (kind : Nat) (f : RxFrame) (s : State) : FrameCheck :=
  if f.sender.toNat = 0 ∨ 4000 < f.sender.toNat then .refused
  else if f.sender.toNat = s.cfg.identity.address then .conflict
  else if !knownKind kind then .refused
  else if kind ≠ crewAskCode && s.isDuplicate f then .duplicate
  else .accepted

/-- The counters and cause of a frame that is not accepted (R120). -/
def State.discardFrame (c : FrameCheck) (s : State) : State :=
  match c with
  | .refused => s.onRadio fun r => { r with framesRefused := sat16 r.framesRefused }
  | .conflict =>
    (s.onRadio fun r => { r with addressConflicts := sat16 r.addressConflicts }).raise .addressConflict
  | .duplicate => s.onRadio fun r => { r with duplicates := sat16 r.duplicates }
  | .accepted => s.onRadio fun r => { r with framesAccepted := sat16 r.framesAccepted }

/-- The end of the frame in hand: a bad frame, or checked and, when accepted, dispatched; then the link window may close
(R117, R119, R120, R123). The flag says that a restart was heard. -/
def State.receive (kind : Nat) (f : RxFrame) (dispatch : State → State × Bool) (s : State) : State × Bool :=
  if !s.inFrame then (s, false)
  else if !f.wf || !frameCrcOk kind f then (s.takeBadFrame, false)
  else
    let check := s.checkFrame kind f
    let counted := s.endFrame.discardFrame check
    let (after, restart) := if check = .accepted then dispatch counted else (counted, false)
    (after.closeWindow, restart)

/-- R122, R136, R138: the Peer Table takes the sender first, then the kind's own unit; a restart heard offers a RECALL
before the frame's own contents are taken (log entry 15). -/
def State.dispatchPeer (f : RxFrame) (adjacent : Bool) (take : Nat → State → State) (s : State) : State × Bool :=
  let a := s.admitSender f adjacent
  match a.slot with
  | some slot =>
    let told := if a.restartHeard then a.state.offerRecall f.sender.toNat else a.state
    (take slot told, a.restartHeard)
  | none => (a.state, false)

/-! ## The kinds (R142 to R144, R173, R177) -/

/-- A payload refused by the Peer Table's check (R158). -/
def State.refusePayload (s : State) : State :=
  s.onPeers fun t => { t with payloadsRefused := sat16 t.payloadsRefused }

/-- R139, R142: a STATE written into its record. -/
def Peer.takeState (payload : List Byte) (p : Peer) : Peer :=
  { p with
    identity := some (payloadIdentity payload), lastState := some payload
    interval := stateHeartbeat payload * 1000 * (stateMode payload).factor, provisional := false
    isolation := p.isolation.map fun r => { r with superseded := r.superseded || stateClosed payload } }

/-- R142: a STATE of an admitted sender. -/
def State.takeStateFrame (f : RxFrame) (slot : Nat) (s : State) : State :=
  if stateOk f.payload then
    (s.onPeers (PeerTable.change slot (Peer.takeState f.payload))).reconcile f.sender.toNat (rxRestarted f)
      (stateItems f.payload)
  else s.refusePayload

/-- R143: a FAULT written into its record. -/
def Peer.takeFault (now : Nat) (payload : List Byte) (p : Peer) : Peer :=
  { p with identity := some (payloadIdentity payload), fault := some (faultReportOf payload now) }

/-- What the Feeder Coordinator does with the record in a slot, as the frame has left it. -/
def State.withPeer (slot : Nat) (f : Peer → State → State) (s : State) : State :=
  match s.peers.peerAt slot with
  | some p => f p s
  | none => s

/-- R143: a FAULT of an admitted sender. -/
def State.takeFaultFrame (f : RxFrame) (slot : Nat) (s : State) : State :=
  if faultOk f.payload then
    (s.onPeers (PeerTable.change slot (Peer.takeFault s.now f.payload))).withPeer slot State.takeFaultReport
  else s.refusePayload

/-- R144: an ISOLATE written into its record. -/
def Peer.takeIsolate (now : Nat) (payload : List Byte) (p : Peer) : Peer :=
  { p with identity := some (payloadIdentity payload), isolation := some (isolationReportOf payload now) }

/-- R144: an ISOLATE of an admitted sender. -/
def State.takeIsolateFrame (f : RxFrame) (slot : Nat) (s : State) : State :=
  if isolateOk f.payload then
    (s.onPeers (PeerTable.change slot (Peer.takeIsolate s.now f.payload))).withPeer slot fun p =>
      State.takeIsolationReport p (byteAt f.payload 5)
  else s.refusePayload

/-- R137: a STATE, FAULT or ISOLATE newcomer is adjacent when its payload passes its check and shares a segment. -/
def State.newcomerAdjacent (ok : Bool) (f : RxFrame) (s : State) : Bool :=
  ok && s.adjacentTo (payloadIdentity f.payload)

/-- STATE_FRAME (R142). -/
def execStateFrame (f : RxFrame) (s : State) : Host.Outcome State Fault Refusal :=
  actForced (State.receive 0x51 f (State.dispatchPeer f (s.newcomerAdjacent (stateOk f.payload) f)
    (State.takeStateFrame f))) s

/-- FAULT_FRAME (R143). -/
def execFaultFrame (f : RxFrame) (s : State) : Host.Outcome State Fault Refusal :=
  actForced (State.receive 0x62 f (State.dispatchPeer f (s.newcomerAdjacent (faultOk f.payload) f)
    (State.takeFaultFrame f))) s

/-- ISOLATE_FRAME (R144). -/
def execIsolateFrame (f : RxFrame) (s : State) : Host.Outcome State Fault Refusal :=
  actForced (State.receive 0x63 f (State.dispatchPeer f (s.newcomerAdjacent (isolateOk f.payload) f)
    (State.takeIsolateFrame f))) s

/-- TAG_FRAME (R173). -/
def execTagFrame (f : RxFrame) (s : State) : Host.Outcome State Fault Refusal :=
  actForced (State.receive 0x74 f (State.dispatchPeer f false fun _ => State.takeTag f.sender.toNat f.payload)) s

/-- RECALL_FRAME (R177). -/
def execRecallFrame (f : RxFrame) (s : State) : Host.Outcome State Fault Refusal :=
  actForced (State.receive 0x75 f (State.dispatchPeer f false fun _ => State.takeRecall f.payload)) s

/-- CREW_ANSWER_FRAME (R122): the sender's record alone. -/
def execCrewAnswerFrame (f : RxFrame) (s : State) : Host.Outcome State Fault Refusal :=
  actForced (State.receive 0x87 f (State.dispatchPeer f false fun _ s1 => s1)) s

/-- FRAME_REFUSED (R120): a frame whose sender address, own address or kind check fails. One that passes them is not
this command's event and has no effect (log entry 2). -/
def execFrameRefused (kind : Byte) (f : RxFrame) (s : State) : Host.Outcome State Fault Refusal :=
  let c := s.checkFrame kind.toNat f
  actForced (fun s1 =>
    if c = .refused || c = .conflict then s1.receive kind.toNat f fun s2 => (s2, false) else (s1, false)) s

/-- A CREW ASK goes to the Tag Unit alone (R122). -/
def State.receiveAsk (f : RxFrame) (s : State) : State × Bool :=
  s.receive crewAskCode f fun s1 => (s1.takeAsk f.sender.toNat f.seqNo.toNat f.payload, false)

/-- PLACE_ASK (R168). -/
def execPlaceAsk (a : AskFrame) (s : State) : Host.Outcome State Fault Refusal :=
  actForced (State.receiveAsk (askRx .place a)) s

/-- REMOVE_ASK (R169). -/
def execRemoveAsk (a : AskFrame) (s : State) : Host.Outcome State Fault Refusal :=
  actForced (State.receiveAsk (askRx .remove a)) s

/-- CLEAR_ORPHAN_ASK (R170). -/
def execClearOrphanAsk (a : AskFrame) (s : State) : Host.Outcome State Fault Refusal :=
  actForced (State.receiveAsk (askRx .clearOrphan a)) s

/-- CONFIRM_ASK (R171). -/
def execConfirmAsk (a : AskFrame) (s : State) : Host.Outcome State Fault Refusal :=
  actForced (State.receiveAsk (askRx .confirm a)) s

/-- OPEN_ASK (R172). -/
def execOpenAsk (a : AskFrame) (s : State) : Host.Outcome State Fault Refusal :=
  actForced (State.receiveAsk (askRx .openAsk a)) s

/-- CLOSE_ASK (R172). -/
def execCloseAsk (a : AskFrame) (s : State) : Host.Outcome State Fault Refusal :=
  actForced (State.receiveAsk (askRx .closeAsk a)) s

/-- STATUS_ASK (R172). -/
def execStatusAsk (a : AskFrame) (s : State) : Host.Outcome State Fault Refusal :=
  actForced (State.receiveAsk (askRx .status a)) s

/-- BAD_ASK (R166). -/
def execBadAsk (f : RxFrame) (s : State) : Host.Outcome State Fault Refusal := actForced (State.receiveAsk f) s

end Sys2Proof.Machine
end

