-- ==== Sys2Proof/Machine/Channel.lean ====
section
/-! DEFINITION. The Radio Line Controller's commands on the channel (7.3, 7.5, 7.7, 7.8): carrier, sync and bad frames,
backoff, key-up, sending, tail, spacing, jam, the duty cycle, the hour of the allowance, and the heartbeat. -/

namespace Sys2Proof.Machine

/-! ## Receiving (R118, R119) -/

/-- R115, R118: one bit of RX data. In LISTEN it is shifted into the sync search, and when the last 16 bits equal the sync
word the receive state becomes FRAME, a detection of the link window (R123); in FRAME no sync word is looked for. -/
def Radio.receiveBit (r : Radio) (bit : Bool) : Radio :=
  if r.rx = .listen then
    let search := r.search.shiftConcat bit
    if search = syncWord then { r with search, rx := .frame, windowSyncs := r.windowSyncs + 1 } else { r with search }
  else r

/-- A run of bits of RX data, in the order received. -/
def Radio.receiveBits (bits : List Bool) (r : Radio) : Radio := bits.foldl Radio.receiveBit r

/-- SYNC_DETECTION (R115, R118): in LISTEN with the inputs looked at, the sync word is received whole (log entry 45). -/
def execSyncDetection (s : State) : Host.Outcome State Fault Refusal :=
  act (when (s.radio.hears && s.radio.rx = .listen) (State.onRadio (Radio.receiveBits (wordBits syncWord)))) s

/-- The attempt in hand is for an URGENT notice. -/
def Radio.urgentInHand (r : Radio) : Bool := r.current.any fun n => n.kind.urgent

/-- R128: carrier appearing in BACKOFF returns the transmitter to DEFER, except an URGENT attempt while CHANNEL JAMMED is
set (R130). -/
def Radio.carrierAppears (r : Radio) : Radio :=
  let r1 := Radio.lookAtCarrier { r with carrier := true }
  if r.tx = .backoff && !(r.jammed && r.urgentInHand) then { r1 with tx := .defer } else r1

/-- Carrier detect changes (R119, R128, R130): where it is not looked at, only the level is kept. -/
def State.carrierChange (present : Bool) (s : State) : State :=
  if present = s.radio.carrier then s
  else if !s.radio.hears then s.onRadio fun r => { r with carrier := present }
  else if present then s.onRadio Radio.carrierAppears
  else
    let dropped := s.onRadio fun r => Radio.lookAtCarrier { r with carrier := false }
    if s.radio.rx = .frame then dropped.takeBadFrame else dropped

/-- CARRIER_DETECT_CHANGE (R128, R130, R119). -/
def execCarrierDetectChange (present : Bool) (s : State) : Host.Outcome State Fault Refusal :=
  act (State.carrierChange present) s

/-- R119: a frame abandoned or failing its CRC; a carrier drop is also the carrier's change. -/
def State.badFrame (cause : BadCause) (s : State) : State :=
  if !s.inFrame then s
  else
    match cause with
    | .carrierDropped => if s.radio.carrier then s.carrierChange false else s.takeBadFrame
    | .lengthField | .crcFailed => s.takeBadFrame

/-- BAD_FRAME (R119). -/
def execBadFrame (cause : BadCause) (s : State) : Host.Outcome State Fault Refusal := act (State.badFrame cause) s

/-! ## Channel access (R128, R130) -/

/-- DEFER goes on to BACKOFF. -/
def Radio.enterBackoff (r : Radio) : Radio := { r with tx := .backoff, timer := 0 }

/-- GUARD_TIME_EXPIRY (R128): the channel has become clear. -/
def execGuardTimeExpiry (s : State) : Host.Outcome State Fault Refusal :=
  act (when (s.radio.tx = .defer && s.channelClear) (State.onRadio Radio.enterBackoff)) s

/-- SLOT_TIME_EXPIRY (R128): the count decrements at the end of a slot. -/
def execSlotTimeExpiry (s : State) : Host.Outcome State Fault Refusal :=
  act (when (s.radio.tx = .backoff && 0 < s.radio.backoff && s.cfg.radio.slot ≤ s.radio.timer)
    (State.onRadio fun r => { r with backoff := r.backoff - 1, timer := 0 })) s

/-- The short preamble (R116). -/
def shortPreamble : Nat := 32

/-- R116: the preamble of a transmission, chosen at KEYUP. -/
def State.preambleLength (s : State) : Nat := if s.sleepingPeerHeld then s.cfg.radio.wake else shortPreamble

/-- R127: the notice in hand takes the next sequence number at its first transmission. -/
def Radio.takeNumber (n : Notice) (r : Radio) : Radio :=
  if n.seqNo.isSome then r
  else
    { r with
      nextSeq := (r.nextSeq + 1) % 256
      outbox := r.outbox.map fun m => if m.attempted then { m with seqNo := some r.nextSeq } else m }

/-- R131: each KEYUP of a STATE, TAG or RECALL in SURVIVAL charges one. -/
def State.chargeFor (s : State) (n : Notice) : Nat :=
  if s.battery.mode = .survival && n.kind.metered then s.radio.allowance - 1 else s.radio.allowance

/-- R118, R129: entry to KEYUP; a frame in hand is abandoned uncounted. -/
def State.keyUp (s : State) : State :=
  match s.radio.current with
  | none => s
  | some n =>
    let preamble := s.preambleLength
    let allowance := s.chargeFor n
    (s.onRadio fun r =>
      { r.takeNumber n with
        tx := .keyup, timer := 0, onAir := n.payload, preamble, allowance, rx := .listen
        guardTimer := none }).closeWindow

/-- BACKOFF_COUNT_ZERO (R128, R129). -/
def execBackoffCountZero (s : State) : Host.Outcome State Fault Refusal :=
  act (when (s.radio.tx = .backoff && s.radio.backoff = 0) State.keyUp) s

/-! ## Sending (R115, R129) -/

/-- The header's flags as they stand at the entry to SENDING (7.2). -/
def State.headerFlags (s : State) : Nat := flag s.tags.unconfirmed 128 + flag (s.battery.mode ≠ .full) 64

/-- R129: entry to SENDING with the header built. -/
def State.startSending (s : State) : State :=
  match s.radio.current with
  | none => s
  | some n =>
    let frame :=
      frameBytes n.kind.code s.cfg.identity.address (n.seqNo.getD 0) s.headerFlags s.radio.onAir
    s.onRadio fun r => { r with tx := .sending, airTicks := 0, frame }

/-- KEY_UP_DELAY_EXPIRY (R129). -/
def execKeyUpDelayExpiry (s : State) : Host.Outcome State Fault Refusal :=
  act (when (s.radio.tx = .keyup && s.cfg.radio.keyUp ≤ s.radio.timer) State.startSending) s

/-- How many bits the frame in SENDING holds: preamble, sync word, header, payload and CRC (R115). -/
def Radio.frameBits (r : Radio) : Nat := r.preamble + 16 + 8 * r.frame.length

/-- The last CRC bit has gone out: `airTicks` counts 1/12 ms (R115). -/
def State.frameGone (s : State) : Bool := s.radio.frameBits * 12000 ≤ s.radio.airTicks * s.cfg.radio.bitRate

/-- R129: the tail. -/
def Radio.enterTail (r : Radio) : Radio :=
  { r with tx := .tail, timer := 0, frame := [], framesSent := sat16 r.framesSent }

/-- FRAME_SENT (R129). -/
def execFrameSent (s : State) : Host.Outcome State Fault Refusal :=
  act (when (s.radio.tx = .sending && s.frameGone) (State.onRadio Radio.enterTail)) s

/-- R127: a notice whose last tail has ended leaves, or stays by the replaced mark as a new notice. -/
def Radio.retire (n : Notice) (r : Radio) : Radio :=
  if n.replaced then
    { r with
      outbox := r.outbox.map fun m =>
        if m.attempted then { m with replaced := false, made := 0, seqNo := none, attempted := false } else m }
  else { r with outbox := removeFirst Notice.attempted r.outbox }

/-- R129: the end of a tail. DESIGN CHOICE (log entry 50): TX key goes off, and the guard time of R128 starts from 0 where
no carrier is there. -/
def State.endTail (s : State) : State :=
  match s.radio.current with
  | none => s.onRadio fun r => Radio.lookAtCarrier { r with tx := .idle, timer := 0 }
  | some n =>
    let count := n.made + 1
    let ended :=
      s.onRadio fun r =>
        Radio.lookAtCarrier
          { r with timer := 0, outbox := r.outbox.map fun m => if m.attempted then { m with made := count } else m }
    if count < n.total then ended.onRadio fun r => { r with tx := .spacing }
    else
      ended.onRadio fun r =>
        let r1 := { r.retire n with tx := .idle, backoff := 0 }
        if n.kind = .state then r1.restartHeartbeat else r1

/-- TAIL_EXPIRY (R127, R129). -/
def execTailExpiry (s : State) : Host.Outcome State Fault Refusal :=
  act (when (s.radio.tx = .tail && s.cfg.radio.tail ≤ s.radio.timer) State.endTail) s

/-- R129: the next transmission of the notice in service starts from DEFER with a fresh draw. -/
def State.startRepeat (s : State) : State := s.startBackoff s.radio.urgentInHand

/-- REPEAT_SPACING_EXPIRY (R129). -/
def execRepeatSpacingExpiry (s : State) : Host.Outcome State Fault Refusal :=
  act (when (s.radio.tx = .spacing && s.cfg.radio.spacing ≤ s.radio.timer) State.startRepeat) s

/-! ## Jam (R130) -/

/-- R130: CHANNEL JAMMED set; an URGENT attempt in DEFER moves straight to BACKOFF. -/
def State.setJammed (s : State) : State :=
  (s.onRadio fun r =>
    let r1 := { r with jammed := true, channelJams := sat16 r.channelJams }
    if r.tx = .defer && r.urgentInHand then r1.enterBackoff else r1).raise .channelJammed

/-- JAM_TIMER_EXPIRY (R130). DESIGN CHOICE (log entry 52): a jam timer that reaches the busy limit while CHANNEL JAMMED is
already set counts no further channel jam and raises no cause. -/
def execJamTimerExpiry (s : State) : Host.Outcome State Fault Refusal :=
  act (when (s.radio.hears && s.radio.carrier && !s.radio.jammed && s.cfg.radio.busy * 1000 ≤ s.radio.jamTimer)
    State.setJammed) s

/-! ## Duty cycle, allowance, heartbeat (R124, R131, R132) -/

/-- The listen window of the duty cycle has its time out. -/
def State.listenDue (s : State) : Bool :=
  match s.radio.duty with
  | .listening e => s.cfg.radio.listen ≤ e
  | .off | .ranOut | .sleeping _ => false

/-- R124: to SLEEP, or, with a frame in hand, when the frame has ended. -/
def Radio.endListen (r : Radio) : Radio := if r.rx = .frame then { r with duty := .ranOut } else r.fallAsleep

/-- LISTEN_WINDOW_EXPIRY (R124). -/
def execListenWindowExpiry (s : State) : Host.Outcome State Fault Refusal :=
  act (when s.listenDue (State.onRadio Radio.endListen)) s

/-- The sleep window of the duty cycle has its time out. -/
def State.sleepDue (s : State) : Bool :=
  match s.radio.duty with
  | .sleeping e => s.cfg.radio.sleep ≤ e
  | .off | .ranOut | .listening _ => false

/-- R124: back to LISTEN for a listen window. -/
def Radio.wake (r : Radio) : Radio := { r.powerUp with duty := .listening 0 }

/-- SLEEP_WINDOW_EXPIRY (R124). -/
def execSleepWindowExpiry (s : State) : Host.Outcome State Fault Refusal :=
  act (when s.sleepDue (State.onRadio Radio.wake)) s

/-- R131: the allowance is set to the full number again and the hour timer restarts. -/
def State.refill (s : State) : State :=
  s.onRadio fun r => { r with allowance := s.cfg.radio.allowance, hourTimer := some 0 }

/-- HOUR_TIMER_EXPIRY (R131). -/
def execHourTimerExpiry (s : State) : Host.Outcome State Fault Refusal :=
  act (when (s.battery.mode = .survival && due s.radio.hourTimer hourMs) State.refill) s

/-- R132: the heartbeat limit is reached; the STATE is offered at the command's end. -/
def State.heartbeatDue (s : State) : Bool := !s.defaulted && due s.radio.heartbeat s.heartbeatLimit

/-- HEARTBEAT_EXPIRY (R132). -/
def execHeartbeatExpiry (s : State) : Host.Outcome State Fault Refusal :=
  actForced (fun s1 => (when s.heartbeatDue (State.onRadio Radio.restartHeartbeat) s1, s.heartbeatDue)) s

end Sys2Proof.Machine
end

