-- ==== Sys2Proof/Machine/Measurement.lean ====
section
/-! DEFINITION. The Sample Port and the Measurement Unit (chapter 1): order check, block formation, block quantities,
presence, publication, measurement loss, and the commands SAMPLE_SET and GAP_TIMER_EXPIRY. -/

namespace Sys2Proof.Machine

/-! ## Sums and clip marks (R6 to R8) -/

def square (x : Int) : Nat := x.natAbs * x.natAbs

/-- A sample of −32768 or 32767 (R8). -/
def atLimit (x : Int) : Bool := x ≤ -32768 || 32767 ≤ x

/-- The unclamped ground residual (R7). -/
def SampleSet.residual (x : SampleSet) : Int := x.ia + x.ib + x.ic

/-- R7: the residual clamped to −32768..32767. -/
def clampResidual (r : Int) : Int := max (-32768) (min 32767 r)

/-- R6, R7: the squares of one set added to the sums. -/
def Sums.add (x : SampleSet) (t : Sums) : Sums where
  a := t.a + square x.ia
  b := t.b + square x.ib
  c := t.c + square x.ic
  g := t.g + square (clampResidual x.residual)
  src := t.src + square x.vsrc
  load := t.load + square x.vload

/-- R8: the clip marks that one set adds. -/
def addClips (x : SampleSet) (m : Quad Bool) : Quad Bool :=
  m.union ⟨atLimit x.ia, atLimit x.ib, atLimit x.ic, atLimit x.residual⟩

/-- Q = floor(S / 32) of the four currents (R6). -/
def Sums.currents (t : Sums) : Quad Nat := ⟨t.a / 32, t.b / 32, t.c / 32, t.g / 32⟩

/-! ## Presence (R10, R11) -/

/-- R10, R11: one side's presence advances by its block's mean square. -/
def Side.advance (tl th confirm q : Nat) (x : Side) : Side :=
  if th ≤ q then
    let above := min (x.above + 1) confirm
    { presence := if above = confirm then .live else x.presence, above, below := 0 }
  else if q < tl then
    let below := min (x.below + 1) confirm
    { presence := if below = confirm then .dead else x.presence, above := 0, below }
  else { presence := x.presence, above := 0, below := 0 }

/-! ## Block formation (R2, R3, R13) -/

/-- Sums and clip marks cleared, at a completion and at a discard. -/
def Meas.clearBlock (m : Meas) : Meas := { m with sums := Sums.zero, clips := Quad.none, position := 0 }

/-- R13: an aux group carried by an arrival that block formation takes. -/
def Meas.captureAux (x : SampleSet) (m : Meas) : Meas :=
  match x.aux with
  | some g => { m with aux := some g, auxNew := true }
  | none => m

/-- R3: samples added at the present position. -/
def Meas.addSet (x : SampleSet) (m : Meas) : Meas :=
  { m with filling := true, position := m.position + 1, sums := m.sums.add x, clips := addClips x m.clips }

/-- R3: an arrival taken by block formation; SEEKING takes only count 0 into a block. -/
def Meas.form (x : SampleSet) (m : Meas) : Meas :=
  let m1 := m.captureAux x
  if m.filling || x.count = 0 then m1.addSet x else m1

/-- R2: the partial block of an order break; a RECOVERING count goes back to 0 (R5). -/
def Meas.breakOrder (m : Meas) : Meas :=
  if m.filling && 0 < m.position then
    { m.clearBlock with
      filling := false, blocksDiscarded := sat16 m.blocksDiscarded, discards := m.discards + 1, recovery := 0 }
  else { m with filling := false }

/-- R2: the arrival follows the last set count. -/
def Meas.inOrder (m : Meas) (count : Nat) : Bool :=
  match m.lastCount with
  | none => true
  | some last => count = (last + 1) % 16

/-- R1, R5: an arrival is the current set, restarts the gap timer, and begins recovery from LOST. -/
def Meas.arrive (x : SampleSet) (m : Meas) : Meas :=
  { m with
    current := some x, gap := some 0, lastCount := some x.count
    state := if m.state = .lost then .recovering else m.state, recovery := if m.state = .lost then 0 else m.recovery }

/-! ## Completion and publication (R3, R5, R9, R11, R14) -/

/-- R5: the measurement state after a completion. -/
def Meas.recover (m : Meas) : Meas :=
  match m.state with
  | .recovering =>
    if m.recovery + 1 < 2 then { m with recovery := m.recovery + 1 }
    else { m with recovery := m.recovery + 1, state := .sound }
  | .sound => m
  | .lost => m

/-- The Measurement Unit after a block completion: presence advanced, the run of discards ended, NEW cleared. -/
def Meas.complete (tl th confirm : Nat) (m : Meas) : Meas :=
  { m.recover.clearBlock with
    discards := 0, auxNew := false, src := m.src.advance tl th confirm (m.sums.src / 32)
    load := m.load.advance tl th confirm (m.sums.load / 32) }

/-- R9: the publication of a block that took the Measurement Unit to `after`. -/
def State.publicationOf (after : Meas) (s : State) : Publication :=
  let before := s.meas
  { q := before.sums.currents, clips := before.clips, srcWas := before.src.presence, src := after.src.presence
    loadWas := before.load.presence, load := after.load.presence, aux := before.aux, auxNew := before.auxNew
    sound := after.state = .sound, lossRuns := s.lossStation, lastPickup := s.oc.lastPickup, time := s.now }

/-- R9, R14: the publication handed to its consumers; an aux update is also a re-ask for a RECHARGE WAIT (R51). -/
def Mail.publish (waiting : Bool) (p : Publication) (m : Mail) : Mail :=
  { m with
    overcurrent := m.overcurrent ++ [p], battery := m.battery ++ [p], coordinator := m.coordinator ++ [p]
    energy := if p.auxNew then m.energy ++ [p] else m.energy
    reasks := if p.auxNew && waiting then m.reasks + 1 else m.reasks }

/-- R3: the block is complete. -/
def State.completeBlock (s : State) : State :=
  let after := s.meas.complete s.derived.tl s.derived.th s.cfg.measurement.confirm
  let p := s.publicationOf after
  (((s.onMeas fun _ => after).onMail (Mail.publish (s.seq.phase = .rechargeWait) p))).stopCoordTimers

/-! ## Measurement loss (R4, R12) -/

/-- R4, R12: the Measurement Unit at a loss. -/
def Meas.lose (m : Meas) : Meas :=
  { m.clearBlock with
    state := .lost, losses := sat16 m.losses, filling := false, lastCount := none, gap := none, discards := 0
    blocksDiscarded :=
      if m.filling && 0 < m.position then sat16 m.blocksDiscarded else m.blocksDiscarded
    src := Side.reset, load := Side.reset }

/-- R4, R12: a measurement loss; a source side that was LIVE aborts a battery test (R107). DESIGN CHOICE (log entry 51): a
publication that a consumer has not taken yet stays waiting for it. -/
def State.lose (s : State) : State :=
  let lost := (s.onMeas Meas.lose).raise .measurementLost
  (if s.meas.src.presence = .live then lost.abortTest else lost).stopCoordTimers

/-! ## Commands -/

/-- R1 to R5: a well-formed set. -/
def State.takeSet (x : SampleSet) (s : State) : State :=
  let inOrder := s.meas.inOrder x.count
  let arrived := s.onMeas (Meas.arrive x)
  if inOrder then
    let formed := arrived.onMeas (Meas.form x)
    if formed.meas.position = 32 then formed.completeBlock else formed
  else
    let broken := arrived.onMeas Meas.breakOrder
    if 4 ≤ broken.meas.discards then broken.lose
    else if x.count = 0 then broken.onMeas (Meas.form x)
    else broken

/-- R1: a transfer ends. -/
def State.takeTransfer (bytes : List Byte) (s : State) : State :=
  match parseSampleSet bytes with
  | some x => s.takeSet x
  | none => s.onMeas fun m => { m with setsRejected := sat16 m.setsRejected }

/-- SAMPLE_SET (R1). -/
def execSampleSet (bytes : List Byte) (s : State) : Host.Outcome State Fault Refusal :=
  act (State.takeTransfer bytes) s

/-- GAP_TIMER_EXPIRY (R4). -/
def execGapTimerExpiry (s : State) : Host.Outcome State Fault Refusal :=
  act (when (s.meas.state ≠ .lost && due s.meas.gap s.derived.gapLimit) State.lose) s

end Sys2Proof.Machine
end

