-- ==== Sys2Proof/Machine/Outputs.lean ====
section
/-! DEFINITION. What the connections show: the output lines as functions of the state, and the areas of the maintenance
port (R186), laid out byte by byte. -/

namespace Sys2Proof.Machine

/-! ## Output lines -/

/-- Trip and close coil drives (R67, R69). -/
def State.tripCoilDriven (s : State) : Bool := s.mech.tripCoil
def State.closeCoilDriven (s : State) : Bool := s.mech.closeCoil

/-- The capacitor charger enables: on in CHARGING (R89, R93). -/
def State.tripChargerEnabled (s : State) : Bool := s.energy.tripCharger = .charging
def State.closeChargerEnabled (s : State) : Bool := s.energy.closeCharger = .charging

/-- The test load drive: on in a RUNNING test (R105). -/
def State.testLoadOn (s : State) : Bool := s.battery.test = .running

/-- TX key (R114). -/
def State.txKeyOn (s : State) : Bool := s.radio.txKey

/-- The bits of the frame in SENDING in the order sent: a preamble of alternating bits that begins with 1, the sync word,
then header, payload and CRC, high bit of each byte first (R114, 7.2). -/
def Radio.lineBits (r : Radio) : List Bool :=
  (List.range r.preamble).map (fun k => decide (k % 2 = 0)) ++ wordBits syncWord ++ r.frame.flatMap wordBits

/-- How many bits of the frame in SENDING have gone out in full at the bit rate (R115). -/
def State.bitsSent (s : State) : Nat := s.radio.airTicks * s.cfg.radio.bitRate / 12000

/-- TX data (R114): the present bit of the frame in SENDING; low outside SENDING and after the last CRC bit. -/
def State.txData (s : State) : Bool :=
  if s.radio.tx = .sending then s.radio.lineBits.getD s.bitsSent false else false

/-- Receiver power (R114); held off until the handover (R189). -/
def State.receiverPowered (s : State) : Bool := s.radio.powered

/-- ALERT driven low (R182); released until the handover (R189). -/
def State.alertLow (s : State) : Bool := s.running && s.alarms.alertLow

/-! ## Codes of the areas (R186) -/

def Requester.code : Requester → Nat
  | .reclose => 1
  | .restore => 2
  | .panel => 3
  | .crew => 4
  | .maintenance => 5

def MeasState.code : MeasState → Nat
  | .sound => 0
  | .lost => 1
  | .recovering => 2

def AuxState.code : AuxState → Nat
  | .none => 0
  | .valid => 1
  | .expired => 2

def CapCharger.code : CapCharger → Nat
  | .firing => 0
  | .unpowered => 1
  | .heldOff => 2
  | .waiting => 3
  | .charging => 4
  | .idle => 5

def BatteryCharger.code : BatteryCharger → Nat
  | .test => 0
  | .off => 1
  | .fault => 2
  | .hot => 3
  | .cold => 4
  | .bulk => 5
  | .absorb => 6
  | .float => 7

def TestState.code : TestState → Nat
  | .idle => 0
  | .pending => 1
  | .running => 2

def TestResult.code : TestResult → Nat
  | .none => 0
  | .pass => 1
  | .marginal => 2
  | .failed => 3
  | .loadFault => 4
  | .aborted => 5
  | .skipped => 6

def TxState.code : TxState → Nat
  | .idle => 0
  | .defer => 1
  | .backoff => 2
  | .keyup => 3
  | .sending => 4
  | .tail => 5
  | .spacing => 6

def RxState.code : RxState → Nat
  | .sleep => 0
  | .listen => 1
  | .frame => 2

def Freshness.code : Freshness → Nat
  | .fresh => 0
  | .stale => 1
  | .lost => 2

def EventOutcome.code : EventOutcome → Nat
  | .cleared => 0
  | .lockout => 1
  | .sectionalized => 2
  | .isolated => 3

/-- A timer as sent: its elapsed time, 0 when stopped. -/
def timerBytes (t : Option Nat) : List Byte := be32 (t.getD 0)

/-- I1 in two bytes; the coding of a discharge current below 0 is a free value (log entry 6). -/
def currentBytes (i : Int) : List Byte :=
  if 0 ≤ i then be16 i.toNat else be16 (Config.negativeCurrentCode i.natAbs).toNat

/-! ## STATUS area, 128 bytes -/

/-- Bytes 0 to 14: sequence, position, last refusal, measurement. -/
def State.statusSwitch (s : State) : List Byte :=
  [byte s.seqState.code, byte s.seq.shot] ++ be16 s.seq.eventNumber ++
    [byte (reasonCode s.seq.reason * 16 + gateCode s.seq.detail), byte (flag s.seq.hotLine 128),
      byte s.mech.position.code, byte (gateCode (s.gate.map Refused.reason)),
      byte ((s.gate.map fun r => r.requester.code).getD 0)] ++
    be32 ((s.gate.map Refused.time).getD 0) ++
    [byte s.meas.state.code, byte (s.meas.src.presence.code * 4 + s.meas.load.presence.code)]

/-- Bytes 15 to 21: Energy Monitor (R93). -/
def State.statusEnergy (s : State) : List Byte :=
  [byte (flag s.energy.tripReady 128 + flag s.energy.closeReady 64 + s.energy.aux.code * 16 + flag s.energy.supply 8),
    byte s.energy.tripCharger.code, byte s.energy.closeCharger.code] ++
    be16 s.energy.vtrip ++ be16 s.energy.vclose

/-- Bytes 22 to 60: Battery Manager (R110). -/
def State.statusBattery (s : State) : List Byte :=
  let b := s.battery
  let command := s.chargerCommand
  [byte b.grade.code, byte ((b.candidate.map BatteryGrade.code).getD 6)] ++ timerBytes b.settleTimer ++
    [byte (flag b.settleTimer.isSome 128 + flag b.uncalibrated 64)] ++ be16 b.soc ++ be40 b.cq ++
    [byte b.charger.code] ++ be16 ((command.map Prod.fst).getD 0) ++ be16 ((command.map Prod.snd).getD 0) ++
    be16 b.absorbSet.toNat ++ be16 b.floatSet.toNat ++ [byte b.test.code, byte b.last.result.code] ++
    be16 (b.last.v0.getD 0) ++ be16 (b.last.v1.getD 0) ++ currentBytes (b.last.i1.getD 0) ++ be32 (b.last.r.getD 0) ++
    be32 b.last.time

/-- Bytes 61 to 85: the radio items (R133). -/
def State.statusRadio (s : State) : List Byte :=
  let r := s.radio
  [byte r.tx.code, byte r.rx.code, byte r.outbox.length] ++
    padTo 8 (r.outbox.map fun n => byte n.kind.code) ++
    [byte r.nextSeq, byte r.link.code, byte r.windowBad, byte r.windowSyncs, byte (flag r.jammed 128),
      byte r.allowance] ++
    timerBytes r.heartbeat ++ be32 s.heartbeatLimit

/-- The dead side as coded: 0 none, 1 source side, 2 load side. -/
def deadSideCode (t : Option TieDelay) : Nat := (t.map fun x => if x.deadIsSource then 1 else 2).getD 0

/-- The tie delay timer as sent: stopped once the delay is served (R155). -/
def tieTimer (t : Option TieDelay) : Option Nat := t.bind fun x => if x.served then none else some x.elapsed

/-- Bytes 86 to 100: the coordination items (R158). -/
def State.statusCoordination (s : State) : List Byte :=
  let c := s.coord
  [byte s.seq.sectionalizeCount, byte s.seq.isolateCount,
    byte (flag c.pendingLoss.isSome 128 + flag (c.tie.any TieDelay.served) 64 + deadSideCode c.tie)] ++
    be32 (c.pendingLoss.getD 0) ++ timerBytes c.countReset ++ timerBytes (tieTimer c.tie)

/-- Bytes 101 to 110: tags, causes, clock (R178, R182). -/
def State.statusTags (s : State) : List Byte :=
  [byte (flag s.tags.unconfirmed 128 + flag s.tags.overflow 64 + flag s.hotLineCondition 32),
    byte (s.tags.feeder.filterMap id).length] ++
    be16 s.alarms.flags.toNat ++ be16 s.alarms.enables.toNat ++ be32 s.secs

/-- The STATUS area (R186). -/
def State.statusArea (s : State) : List Byte :=
  padTo 128
    (s.statusSwitch ++ s.statusEnergy ++ s.statusBattery ++ s.statusRadio ++ s.statusCoordination ++ s.statusTags)

/-! ## The other areas -/

/-- IDENTITY (R186); the revision number is a free constant (log entry 5). -/
def State.identityArea (s : State) (index : Nat) : List Byte :=
  match index with
  | 0 => be16 0x4410 ++ [0#8, 0#8]
  | 1 => [byte (Config.siliconRevision % 255 + 1), 0#8, 0#8, 0#8]
  | 2 => be16 s.loader.version ++ [0#8, 0#8]
  | _ => [byte (flag s.loader.defaulted 1), byte s.loader.clampCount] ++ be16 s.cfg.identity.address

/-- Bytes 0 to 10 of a PEER area. -/
def Peer.areaHead (p : Peer) : List Byte :=
  be16 p.address ++
    (match p.identity with
     | some id => [byte (128 + roleCode id.role * 32 + flag id.protective 16), byte id.source, byte id.load]
     | none => [0#8, 0#8, 0#8]) ++
    [byte p.freshness.code] ++ be32 p.interval ++
    [byte (flag p.provisional 128 + flag p.restarted 64 + flag p.economyHeard 32 + p.sequenceSet.length)]

/-- Bytes 77 to 85 of a PEER area. -/
def Peer.areaFault (p : Peer) : List Byte :=
  match p.fault with
  | some f =>
    be16 f.event ++ [byte (flag f.clipped 16 + elementBits f.elements), byte f.shot, byte f.highest] ++ be32 f.heard
  | none => padTo 9 []

/-- Bytes 86 to 94 of a PEER area. -/
def Peer.areaIsolation (p : Peer) : List Byte :=
  match p.isolation with
  | some r =>
    be16 r.event ++ [byte (flag r.superseded 2 + flag r.isolated 1), byte r.faulted, byte r.cutOff] ++ be32 r.heard
  | none => padTo 9 []

/-- The PEER area, 95 bytes (R186). -/
def Peer.area (now : Nat) (p : Peer) : List Byte :=
  p.areaHead ++ padTo 4 (p.sequenceSet.map byte) ++ be32 p.lastHeard ++ be32 (min (now - p.lastHeard) 4294967295) ++
    [byte (flag p.lastState.isSome 128 + flag p.fault.isSome 64 + flag p.isolation.isSome 32)] ++
    padTo 53 (p.lastState.getD []) ++ p.areaFault ++ p.areaIsolation

/-- The LOCAL TAG area, 16 bytes (R186). -/
def State.localTagArea (s : State) (x : LocalSlot) : List Byte :=
  (match x.tag with
   | some t =>
     [1#8, byte t.kind.code, byte t.scope.code, byte (s.scopeSegment t.scope)] ++ be16 t.crewId ++
       [byte t.grade, byte t.generation] ++ be32 t.placed ++ be16 t.blocked ++ [byte (flag t.recalled 1)]
   | none => padTo 15 []) ++ [byte x.counter]

/-- The FEEDER TAG area, 13 bytes (R186). -/
def FeederTag.area (t : FeederTag) : List Byte :=
  be16 t.holder ++
    [byte t.number, byte t.generation, byte t.kind.code, byte t.scope.code, byte t.segment, byte t.grade] ++
    be16 t.crewId ++ [byte (flag t.orphan 1)] ++ be16 t.blocked

/-- The FAULT RECORD area, 28 bytes (R186). -/
def FaultRecord.area (r : FaultRecord) : List Byte :=
  be16 r.number ++ be32 r.start ++ [byte (elementBits r.elements)] ++ be32 r.peak.a ++ be32 r.peak.b ++
    be32 r.peak.c ++ be32 r.peak.g ++
    [byte r.shots, byte (flag r.fastBlocked 2 + flag r.holdUsed 1), byte r.outcome.code, byte (reasonCode r.reason),
      byte r.grade.code]

/-- The COUNTERS area, 67 bytes (R186). -/
def State.countersArea (s : State) : List Byte :=
  be16 s.meas.setsRejected ++ be16 s.meas.blocksDiscarded ++ be16 s.meas.losses ++ be16 s.energy.expiries ++
    be16 s.radio.framesSent ++ be16 s.radio.framesAccepted ++ be16 s.radio.badFrames ++ be16 s.radio.duplicates ++
    be16 s.radio.framesRefused ++ be16 s.radio.addressConflicts ++ be16 s.radio.outboxOverflow ++
    be16 s.radio.channelJams ++ [byte s.radio.windowsClosed] ++ be16 s.peers.tableFull ++ be16 s.peers.evictions ++
    be16 s.peers.payloadsRefused ++ be16 s.tags.asksTaken ++ be16 s.tags.duplicateAsks ++
    be16 s.tags.payloadsRefused ++ be16 s.tags.recallsIgnored ++ be16 s.tags.recallConflicts ++ be32 s.mech.trips ++
    be32 s.mech.closes ++ be32 s.mech.wear.a ++ be32 s.mech.wear.b ++ be32 s.mech.wear.c ++ be16 s.log.written ++
    be16 s.log.overwrites ++ be16 s.port.errors

end Sys2Proof.Machine
end

