-- ==== Sys2Proof/Machine/StartUp.lean ====
section
/-! DEFINITION. Resets and start-up (11.2 to 11.5): what each kind of reset keeps, and START with the handover. -/

namespace Sys2Proof.Machine

/-! ## Resets -/

/-- What a RESET pin reset and a RESTART keep of each block until START (R193). -/
def Meas.kept (m : Meas) : Meas :=
  { Meas.reset with setsRejected := m.setsRejected, blocksDiscarded := m.blocksDiscarded, losses := m.losses }

def Seq.kept (q : Seq) : Seq := { Seq.reset with eventNumber := q.eventNumber }

def Mech.kept (m : Mech) : Mech := { Mech.reset with trips := m.trips, closes := m.closes, wear := m.wear }

def Energy.kept (e : Energy) : Energy := { Energy.reset with expiries := e.expiries }

def Battery.kept (b : Battery) : Battery :=
  { Battery.reset with
    cq := b.cq, soc := b.soc, uncalibrated := b.uncalibrated, last := b.last, judged := b.judged }

/-- The free draws already made stay made: the generator is not part of any reset table (log entry 3). -/
def Radio.kept (r : Radio) : Radio :=
  { Radio.reset with
    draws := r.draws, framesSent := r.framesSent, framesAccepted := r.framesAccepted, badFrames := r.badFrames
    duplicates := r.duplicates, framesRefused := r.framesRefused, addressConflicts := r.addressConflicts
    outboxOverflow := r.outboxOverflow, channelJams := r.channelJams, windowsClosed := r.windowsClosed }

def PeerTable.kept (t : PeerTable) : PeerTable :=
  { PeerTable.reset with tableFull := t.tableFull, evictions := t.evictions, payloadsRefused := t.payloadsRefused }

/-- Generation counters and the counters of R178 are kept; every slot is emptied (R179). -/
def Tags.kept (t : Tags) : Tags :=
  { Tags.reset with
    slots := t.slots.map fun x => ⟨none, x.counter⟩, asksTaken := t.asksTaken, duplicateAsks := t.duplicateAsks
    payloadsRefused := t.payloadsRefused, recallsIgnored := t.recallsIgnored, recallConflicts := t.recallConflicts }

/-- A transaction in progress at a reset is abandoned with no response (R185). -/
def Transaction.abandon : Transaction → Transaction
  | .idle => .idle
  | .taken _ _ _ => .abandoned
  | .abandoned => .abandoned

/-- A reset that keeps: the RESET pin, or RESTART (R189, R193). A start-up that a power-on began stays a power-on start-up,
its presets not yet loaded (log entry 16). -/
def State.resetKeeping (kind : ResetKind) (s : State) : State :=
  { pending := s.pending, startUp := some (if s.startUp = some .powerOn then .powerOn else kind)
    loader := Loader.reset, clock := { s.clock with ms := 0, fraction := 0 }, meas := s.meas.kept, mail := Mail.reset
    oc := Oc.reset, seq := s.seq.kept, mech := s.mech.kept, gate := none, energy := s.energy.kept
    battery := s.battery.kept, radio := s.radio.kept, peers := s.peers.kept, coord := Coordination.reset
    tags := s.tags.kept, log := s.log, alarms := Alarms.reset
    port := { s.port with transaction := s.port.transaction.abandon } }

/-- A power-on: every power-on value (R189). The queue of commands is no part of the machine's own state, a transaction in
progress is abandoned (R185), and the free draws already made stay made (log entry 3). -/
def State.powerOn (s : State) : State :=
  { State.reset with
    pending := s.pending, radio := { Radio.reset with draws := s.radio.draws }
    port := { Port.reset with transaction := s.port.transaction.abandon } }

/-- POWER_ON (R189). -/
def execPowerOn (s : State) : Host.Outcome State Fault Refusal := .next s.powerOn

/-- RESET_PIN (R189). -/
def execResetPin (s : State) : Host.Outcome State Fault Refusal := .next (s.resetKeeping .resetPin)

/-! ## START and the handover (R193) -/

/-- R82, R75, R76: contacts, position, and at a power-on the presets. -/
def Mech.start (presets : Option SwitchSettings) (pins : StartPins) (m : Mech) : Mech :=
  let reading := readingOf pins.openMade pins.closedMade
  let m1 :=
    match presets with
    | some x => { m with trips := x.tripsPreset, closes := x.closesPreset, wear := x.wearPreset }
    | none => m
  { m1 with
    openInput := .start pins.openMade, closedInput := .start pins.closedMade, contactOpen := pins.openMade
    contactClosed := pins.closedMade, lastClosed := reading.getD false
    position := match reading with | some true => .closed | some false => .opened | none => .jammed }

/-- R113, R193: at a power-on Cq is half of Cfull; a kept Cq above the new Cfull becomes Cfull, SOC worked again. -/
def Battery.start (powerOn : Bool) (settings : BatterySettings) (cfull : Nat) (b : Battery) : Battery :=
  let t := b.takeTemperature settings 250
  let interval := if settings.testHours = 0 then none else some 0
  if powerOn then { t with cq := cfull / 2, soc := 5000, intervalTimer := interval }
  else if cfull < b.cq then { t with cq := cfull, soc := socOf cfull cfull, intervalTimer := interval }
  else { t with intervalTimer := interval }

/-- R179, R161, R162: slot 0 from the key, the buttons' levels as they are, and no notice. -/
def Tags.start (secs : Nat) (pins : StartPins) (t : Tags) : Tags :=
  let t1 :=
    { t with
      keyInput := .start pins.keyOn, openInput := .start pins.openPressed, closeInput := .start pins.closePressed
      confirmInput := .start pins.confirmPressed, panelGrade := pins.grade, keyOn := pins.keyOn
      openPressed := pins.openPressed, closePressed := pins.closePressed, confirmPressed := pins.confirmPressed }
  if pins.keyOn then
    let generation := ((t.slot 0).counter + 1) % 256
    t1.setSlot 0
      ⟨some
          { kind := .hotLine, scope := .station, crewId := 0, grade := gradeOfPanel pins.grade, generation
            placed := secs, blocked := 0, recalled := false },
        generation⟩
  else t1

/-- R134: LISTEN, with the heartbeat running outside DEFAULTED and the allowance full in SURVIVAL. -/
def Radio.start (defaulted survival : Bool) (full : Nat) (carrier : Bool) (r : Radio) : Radio :=
  let r1 :=
    { r with
      carrier, heartbeat := if defaulted then none else some 0, allowance := if survival then full else 0
      hourTimer := if survival then some 0 else none }
  r1.powerUp

/-- R63: the start state by position and role. -/
def State.startSequence (s : State) : State :=
  match s.mech.position with
  | .closed => s.enterReady
  | .opened => if s.role = .tie then s.setPhase .standby else s.enterLockout .start none
  | .disagree | .jammed => s.enterLockout .mechanism none

/-- R190 to R192: settings handed out, with the image version and the clamp count. -/
def State.loadSettings (bytes : List Byte) (s : State) : State :=
  let image := loadImage bytes
  { s with
    loader :=
      { settings := image.settings, derived := deriveSettings image.settings, defaulted := image.defaulted
        clampCount := image.clampCount, version := image.version }
    alarms := { flags := 0#12, enables := image.settings.alarmEnables } }

/-- START: each block takes its start state (R193), the causes that start raises are raised (R184), and control is handed
to the blocks. -/
def State.start (kind : ResetKind) (pins : StartPins) (s : State) : State :=
  let powerOn : Bool := kind = .powerOn
  let presets := if powerOn then some s.cfg.switch else none
  let s1 :=
    ((s.onMech (Mech.start presets pins)).onBattery (Battery.start powerOn s.cfg.battery s.derived.cfull)).onTags
      (Tags.start s.secs pins)
  let s2 :=
    (s1.onEnergy fun e => { e with supplyInput := .start pins.auxPresent, supply := pins.auxPresent }).decideCapChargers
  let mode := modeFor pins.auxPresent s2.battery.grade
  let s3 := s2.onBattery fun b => { b with mode }
  let s4 := s3.onRadio (Radio.start s.defaulted (mode = .survival) s.cfg.radio.allowance pins.carrier)
  let hotLine := s4.tags.localHotLine
  let s5 := (s4.onSeq fun q => { q with hotLine }).startSequence
  let s6 :=
    (((s5.raiseIf (s5.mech.position = .jammed) .mechanismFault).raiseIf s5.worn .wearLimit).raiseIf s.defaulted
      .configDefaulted)
  let s7 := s6.onMeas fun m => { m with gap := some 0 }
  { s7 with startUp := none, clock := { s7.clock with ms := 0, fraction := 0 } }

/-- The read of the image, and the rest of start-up (R189 to R193). -/
def State.imageRead (kind : ResetKind) (bytes : List Byte) (pins : StartPins) (s : State) : State :=
  ((s.loadSettings bytes).start kind pins).settleReceiver

/-- IMAGE_READ (R190): during start-up alone (log entry 2). -/
def execImageRead (bytes : List Byte) (pins : StartPins) (s : State) : Host.Outcome State Fault Refusal :=
  .next
    (match s.startUp with
     | some kind => s.imageRead kind bytes pins
     | none => s)

end Sys2Proof.Machine
end

