-- ==== Sys2Proof/Machine/Port.lean ====
section
/-! DEFINITION. The Maintenance Port (10.3, 10.4): the taking of a request, its status and response, the service commands,
and the release of chip select. -/

namespace Sys2Proof.Machine

/-! ## Taking a request (R185) -/

/-- The status byte of a response. -/
inductive PortStatus where
  | ok | empty | badIndex | unknown | notReady
  deriving DecidableEq, Repr

def PortStatus.code : PortStatus → Nat
  | .ok => 0
  | .empty => 1
  | .badIndex => 2
  | .unknown => 3
  | .notReady => 4

/-- The response of the transaction, with the cause that a CAUSE read cleared and the mark of an accepted RESTART. -/
def State.respond (response : List Byte) (cause : Option Cause) (restart : Bool) (s : State) : State :=
  s.onPort fun p => { p with transaction := .taken response cause restart }

/-- A response of a status alone; UNKNOWN and BAD INDEX are port errors (R185). -/
def State.respondStatus (status : PortStatus) (s : State) : State :=
  let response := [byte status.code]
  (if status = .unknown || status = .badIndex then s.onPort fun p => { p with errors := sat16 p.errors } else s).respond
    response none false

/-- One selection carries one request (log entry 17); during start-up the answer is NOT READY (R185, R189). -/
def portRequest (body : State → State) (s : State) : Host.Outcome State Fault Refusal :=
  .next
    (if s.port.transaction ≠ .idle then s
     else if s.running then body s
     else s.respondStatus .notReady)

/-- A request that its owner acts on, with what follows at the command's end. -/
def portAct (body : State → State) (s : State) : Host.Outcome State Fault Refusal :=
  portRequest (fun s1 => finish false s1 (body s1)) s

/-- A read: BAD INDEX beyond its range, EMPTY where it holds nothing, otherwise OK and the snapshot. -/
def State.serveRead (index last : Nat) (area : Option (List Byte)) (s : State) : State :=
  if last < index then s.respondStatus .badIndex
  else
    match area with
    | some bytes => s.respond (byte PortStatus.ok.code :: bytes) none false
    | none => s.respondStatus .empty

/-- A command: BAD INDEX for an index other than 0; otherwise OK, answer and detail, with the command's effect. -/
def State.serveCommand (index answer detail : Nat) (restart : Bool) (effect : State → State) (s : State) : State :=
  if index ≠ 0 then s.respondStatus .badIndex
  else (effect s).respond [byte PortStatus.ok.code, byte answer, byte detail] none restart

/-! ## Reads (R186) -/

/-- IDENTITY_READ. -/
def execIdentityRead (index : Byte) (s : State) : Host.Outcome State Fault Refusal :=
  portRequest (fun s1 => s1.serveRead index.toNat 3 (some (s1.identityArea index.toNat))) s

/-- STATUS_READ. -/
def execStatusRead (index : Byte) (s : State) : Host.Outcome State Fault Refusal :=
  portRequest (fun s1 => s1.serveRead index.toNat 0 (some s1.statusArea)) s

/-- PEER_READ. -/
def execPeerRead (index : Byte) (s : State) : Host.Outcome State Fault Refusal :=
  portRequest (fun s1 => s1.serveRead index.toNat 15 ((s1.peers.peerAt index.toNat).map (Peer.area s1.now))) s

/-- LOCAL_TAG_READ. -/
def execLocalTagRead (index : Byte) (s : State) : Host.Outcome State Fault Refusal :=
  portRequest (fun s1 => s1.serveRead index.toNat 7 (some (s1.localTagArea (s1.tags.slot index.toNat)))) s

/-- FEEDER_TAG_READ. -/
def execFeederTagRead (index : Byte) (s : State) : Host.Outcome State Fault Refusal :=
  portRequest (fun s1 => s1.serveRead index.toNat 23 ((s1.tags.feeder.getD index.toNat none).map FeederTag.area)) s

/-- FAULT_RECORD_READ. -/
def execFaultRecordRead (index : Byte) (s : State) : Host.Outcome State Fault Refusal :=
  portRequest (fun s1 => s1.serveRead index.toNat 31 ((s1.log.records[index.toNat]?).map FaultRecord.area)) s

/-- COUNTERS_READ. -/
def execCountersRead (index : Byte) (s : State) : Host.Outcome State Fault Refusal :=
  portRequest (fun s1 => s1.serveRead index.toNat 0 (some s1.countersArea)) s

/-- R183: the pending enabled cause of highest priority is returned and its flag cleared. -/
def State.serveCause (index : Nat) (s : State) : State :=
  if index ≠ 0 then s.respondStatus .badIndex
  else
    match s.alarms.pick with
    | some c =>
      (s.onAlarms fun a => a.clear c).respond [byte PortStatus.ok.code, byte c.priority] (some c) false
    | none => s.respond [byte PortStatus.ok.code, 0#8] none false

/-- CAUSE_READ (R183). -/
def execCauseRead (index : Byte) (s : State) : Host.Outcome State Fault Refusal :=
  portRequest (State.serveCause index.toNat) s

/-! ## Commands (R187, R188) -/

/-- TRIP: a commanded open (R187). -/
def execTrip (index : Byte) (s : State) : Host.Outcome State Fault Refusal :=
  portAct (State.serveCommand index.toNat 0 0 false State.commandOpen) s

/-- The answer and detail of a commanded close (R187). -/
def CloseAnswer.bytes : CloseAnswer → Nat × Nat
  | .accepted => (0, 0)
  | .gate r => (1, r.code)
  | .wrongState => (2, 0)

/-- CLOSE: a commanded close with requester MAINTENANCE (R187). -/
def execClose (index : Byte) (s : State) : Host.Outcome State Fault Refusal :=
  portAct (fun s1 =>
    let a := (s1.closeAnswer .maintenance).bytes
    s1.serveCommand index.toNat a.1 a.2 false (State.commandClose .maintenance)) s

def TestAnswer.code : TestAnswer → Nat
  | .accepted => 0
  | .inProgress => 3
  | .noTest => 4

/-- TEST_START: a test ask (R103, R187). -/
def execTestStart (index : Byte) (s : State) : Host.Outcome State Fault Refusal :=
  portAct (fun s1 => s1.serveCommand index.toNat s1.testStartAnswer.code 0 false State.askTest) s

/-- TEST_ABORT (R103, R187). -/
def execTestAbort (index : Byte) (s : State) : Host.Outcome State Fault Refusal :=
  portAct (fun s1 => s1.serveCommand index.toNat s1.testAbortAnswer.code 0 false State.takeTestAbort) s

/-- R195: the seconds counter takes the argument and the sub-second count goes to 0. -/
def Clock.set (seconds : Nat) (c : Clock) : Clock := { c with seconds, subSecond := 0, subFraction := 0 }

/-- SET_CLOCK (R195). -/
def execSetClock (index : Byte) (seconds : Word) (s : State) : Host.Outcome State Fault Refusal :=
  portRequest (State.serveCommand index.toNat 0 0 false (State.onClock (Clock.set seconds.toNat))) s

/-- R187: all twelve enables replaced; bits 15..12 are ignored. -/
def Alarms.setEnables (mask : Half) (a : Alarms) : Alarms := { a with enables := mask.setWidth 12 }

/-- ENABLE_CAUSES (R187). -/
def execEnableCauses (index : Byte) (mask : Half) (s : State) : Host.Outcome State Fault Refusal :=
  portRequest (State.serveCommand index.toNat 0 0 false (State.onAlarms (Alarms.setEnables mask))) s

/-- RESTART: answered now, made at the release of chip select (R188). -/
def execRestart (index : Byte) (s : State) : Host.Outcome State Fault Refusal :=
  portRequest (State.serveCommand index.toNat 0 0 true id) s

/-- UNKNOWN_REQUEST: a code byte that is not of the table (R185). -/
def execUnknownRequest (_code : Byte) (_index : Byte) (s : State) : Host.Outcome State Fault Refusal :=
  portRequest (State.respondStatus .unknown) s

/-! ## Release of chip select (R183, R185, R188) -/

/-- R183: a cause whose byte has not been clocked out in full is set pending again. -/
def State.repend (cause : Option Cause) (clocked : Nat) (s : State) : State :=
  match cause with
  | some c => if clocked < 2 then s.raise c else s
  | none => s

/-- The transaction ends after `clocked` response bytes. -/
def State.releaseSelect (clocked : Nat) (s : State) : State :=
  match s.port.transaction with
  | .idle => s.onPort fun p => { p with errors := sat16 p.errors }
  | .taken _ cause restart =>
    let released := (s.repend cause clocked).onPort fun p => { p with transaction := .idle }
    if restart then released.resetKeeping .restart else released
  | .abandoned => s.onPort fun p => { p with transaction := .idle }

/-- CHIP_SELECT_RELEASE (R185, R188). -/
def execChipSelectRelease (clocked : Nat) (s : State) : Host.Outcome State Fault Refusal :=
  .next (s.releaseSelect clocked)

end Sys2Proof.Machine
end

