-- ==== Sys2Proof/Machine/Dispatch.lean ====
section
/-! DEFINITION. The dispatch: one arm per command, each one direct call of its meaning. -/

namespace Sys2Proof.Machine

def exec (i : Instr) (s : State) : Host.Outcome State Fault Refusal :=
  match i with
  | .powerOn => Sys2Proof.Machine.execPowerOn s
  | .resetPin => Sys2Proof.Machine.execResetPin s
  | .imageRead bytes pins => Sys2Proof.Machine.execImageRead bytes pins s
  | .sampleSet bytes => Sys2Proof.Machine.execSampleSet bytes s
  | .gapTimerExpiry => Sys2Proof.Machine.execGapTimerExpiry s
  | .blockEvaluation => Sys2Proof.Machine.execBlockEvaluation s
  | .holdCounterExpiry => Sys2Proof.Machine.execHoldCounterExpiry s
  | .passageIndication => Sys2Proof.Machine.execPassageIndication s
  | .pickupReport => Sys2Proof.Machine.execPickupReport s
  | .timingEnded => Sys2Proof.Machine.execTimingEnded s
  | .tripDemand => Sys2Proof.Machine.execTripDemand s
  | .contactReadingChange openMade openHeld closedMade closedHeld => Sys2Proof.Machine.execContactReadingChange openMade openHeld closedMade closedHeld s
  | .tripCompletion => Sys2Proof.Machine.execTripCompletion s
  | .tripFailure => Sys2Proof.Machine.execTripFailure s
  | .closeCompletion => Sys2Proof.Machine.execCloseCompletion s
  | .closeFailure => Sys2Proof.Machine.execCloseFailure s
  | .disagreeTimerExpiry => Sys2Proof.Machine.execDisagreeTimerExpiry s
  | .deadTimeExpiry => Sys2Proof.Machine.execDeadTimeExpiry s
  | .rechargeWaitReask => Sys2Proof.Machine.execRechargeWaitReask s
  | .rechargeWaitExpiry => Sys2Proof.Machine.execRechargeWaitExpiry s
  | .reclaimExpiry => Sys2Proof.Machine.execReclaimExpiry s
  | .auxUpdate => Sys2Proof.Machine.execAuxUpdate s
  | .auxTimeout => Sys2Proof.Machine.execAuxTimeout s
  | .auxSupplyChange present held => Sys2Proof.Machine.execAuxSupplyChange present held s
  | .chargeCount => Sys2Proof.Machine.execChargeCount s
  | .absorbTimeLimit => Sys2Proof.Machine.execAbsorbTimeLimit s
  | .settleTimerExpiry => Sys2Proof.Machine.execSettleTimerExpiry s
  | .testIntervalExpiry => Sys2Proof.Machine.execTestIntervalExpiry s
  | .retryExpiry => Sys2Proof.Machine.execRetryExpiry s
  | .pendingLimit => Sys2Proof.Machine.execPendingLimit s
  | .testDurationExpiry => Sys2Proof.Machine.execTestDurationExpiry s
  | .syncDetection => Sys2Proof.Machine.execSyncDetection s
  | .badFrame cause => Sys2Proof.Machine.execBadFrame cause s
  | .frameRefused kind frame => Sys2Proof.Machine.execFrameRefused kind frame s
  | .stateFrame frame => Sys2Proof.Machine.execStateFrame frame s
  | .faultFrame frame => Sys2Proof.Machine.execFaultFrame frame s
  | .isolateFrame frame => Sys2Proof.Machine.execIsolateFrame frame s
  | .tagFrame frame => Sys2Proof.Machine.execTagFrame frame s
  | .recallFrame frame => Sys2Proof.Machine.execRecallFrame frame s
  | .crewAnswerFrame frame => Sys2Proof.Machine.execCrewAnswerFrame frame s
  | .placeAsk ask => Sys2Proof.Machine.execPlaceAsk ask s
  | .removeAsk ask => Sys2Proof.Machine.execRemoveAsk ask s
  | .clearOrphanAsk ask => Sys2Proof.Machine.execClearOrphanAsk ask s
  | .confirmAsk ask => Sys2Proof.Machine.execConfirmAsk ask s
  | .openAsk ask => Sys2Proof.Machine.execOpenAsk ask s
  | .closeAsk ask => Sys2Proof.Machine.execCloseAsk ask s
  | .statusAsk ask => Sys2Proof.Machine.execStatusAsk ask s
  | .badAsk frame => Sys2Proof.Machine.execBadAsk frame s
  | .carrierDetectChange present => Sys2Proof.Machine.execCarrierDetectChange present s
  | .guardTimeExpiry => Sys2Proof.Machine.execGuardTimeExpiry s
  | .slotTimeExpiry => Sys2Proof.Machine.execSlotTimeExpiry s
  | .backoffCountZero => Sys2Proof.Machine.execBackoffCountZero s
  | .keyUpDelayExpiry => Sys2Proof.Machine.execKeyUpDelayExpiry s
  | .frameSent => Sys2Proof.Machine.execFrameSent s
  | .tailExpiry => Sys2Proof.Machine.execTailExpiry s
  | .repeatSpacingExpiry => Sys2Proof.Machine.execRepeatSpacingExpiry s
  | .jamTimerExpiry => Sys2Proof.Machine.execJamTimerExpiry s
  | .listenWindowExpiry => Sys2Proof.Machine.execListenWindowExpiry s
  | .sleepWindowExpiry => Sys2Proof.Machine.execSleepWindowExpiry s
  | .hourTimerExpiry => Sys2Proof.Machine.execHourTimerExpiry s
  | .heartbeatExpiry => Sys2Proof.Machine.execHeartbeatExpiry s
  | .peerStale slot => Sys2Proof.Machine.execPeerStale slot s
  | .peerLost slot => Sys2Proof.Machine.execPeerLost slot s
  | .countResetTimerExpiry => Sys2Proof.Machine.execCountResetTimerExpiry s
  | .coordinatorBlock => Sys2Proof.Machine.execCoordinatorBlock s
  | .tieDelayServed => Sys2Proof.Machine.execTieDelayServed s
  | .hotLineKey on held grade => Sys2Proof.Machine.execHotLineKey on held grade s
  | .openButton held => Sys2Proof.Machine.execOpenButton held s
  | .closeButton held => Sys2Proof.Machine.execCloseButton held s
  | .confirmButton held => Sys2Proof.Machine.execConfirmButton held s
  | .identityRead index => Sys2Proof.Machine.execIdentityRead index s
  | .statusRead index => Sys2Proof.Machine.execStatusRead index s
  | .peerRead index => Sys2Proof.Machine.execPeerRead index s
  | .localTagRead index => Sys2Proof.Machine.execLocalTagRead index s
  | .feederTagRead index => Sys2Proof.Machine.execFeederTagRead index s
  | .faultRecordRead index => Sys2Proof.Machine.execFaultRecordRead index s
  | .countersRead index => Sys2Proof.Machine.execCountersRead index s
  | .causeRead index => Sys2Proof.Machine.execCauseRead index s
  | .trip index => Sys2Proof.Machine.execTrip index s
  | .close index => Sys2Proof.Machine.execClose index s
  | .testStart index => Sys2Proof.Machine.execTestStart index s
  | .testAbort index => Sys2Proof.Machine.execTestAbort index s
  | .setClock index seconds => Sys2Proof.Machine.execSetClock index seconds s
  | .enableCauses index mask => Sys2Proof.Machine.execEnableCauses index mask s
  | .restart index => Sys2Proof.Machine.execRestart index s
  | .unknownRequest code index => Sys2Proof.Machine.execUnknownRequest code index s
  | .chipSelectRelease clocked => Sys2Proof.Machine.execChipSelectRelease clocked s
  | .buttonRelease button held => Sys2Proof.Machine.execButtonRelease button held s

end Sys2Proof.Machine
end

