-- ==== Sys2Proof/Machine/Tick.lean ====
section
/-! DEFINITION. Time: what 1/12 ms of the oscillator does to every timer (R194, log entry 1). -/

namespace Sys2Proof.Machine

/-- A running timer 10 ms further. -/
def elapse (t : Option Nat) : Option Nat := t.map (· + 10)

/-- A timer that holds its remaining time, 10 ms further. -/
def runDown (t : Option Nat) : Option Nat := t.map (· - 10)

def Mech.tick (m : Mech) : Mech :=
  { m with operationTimer := elapse m.operationTimer, disagreeTimer := elapse m.disagreeTimer }

def Energy.tick (e : Energy) : Energy := { e with auxTimer := elapse e.auxTimer }

/-- The settle timer holds while grading is frozen (R109). -/
def Battery.tick (frozen : Bool) (b : Battery) : Battery :=
  { b with
    absorbTimer := elapse b.absorbTimer, intervalTimer := elapse b.intervalTimer, retryTimer := elapse b.retryTimer
    durationTimer := elapse b.durationTimer, pendingTimer := elapse b.pendingTimer
    settleTimer := if frozen then b.settleTimer else elapse b.settleTimer }

def Seq.tick (q : Seq) : Seq :=
  { q with
    deadTimer := runDown q.deadTimer, waitTimer := runDown q.waitTimer, reclaimTimer := runDown q.reclaimTimer }

def Duty.tick : Duty → Duty
  | .off => .off
  | .listening e => .listening (e + 10)
  | .ranOut => .ranOut
  | .sleeping e => .sleeping (e + 10)

/-- The transmit state counts a time of its own (R128, R129). -/
def TxState.timed : TxState → Bool
  | .backoff | .keyup | .tail | .spacing => true
  | .idle | .defer | .sending => false

/-- The jam timer runs while carrier is present and looked at (R130). -/
def Radio.tick (r : Radio) : Radio :=
  { r with
    timer := if r.tx.timed then r.timer + 10 else r.timer, guardTimer := elapse r.guardTimer
    jamTimer := if r.hears && r.carrier then r.jamTimer + 10 else r.jamTimer, duty := r.duty.tick
    hourTimer := elapse r.hourTimer, heartbeat := elapse r.heartbeat }

/-- The tie delay timer stops counting once the delay is served (R155). -/
def Coordination.tick (c : Coordination) : Coordination :=
  { c with
    countReset := elapse c.countReset
    tie := c.tie.map fun t => if t.served then t else { t with elapsed := t.elapsed + 10 } }

/-- Ten milliseconds of the time base have passed: every timer at 10 ms resolution. -/
def State.tenMs (s : State) : State :=
  let frozen := s.gradingFrozen
  (((((s.onMech Mech.tick).onEnergy Energy.tick).onBattery (Battery.tick frozen)).onSeq Seq.tick).onRadio
    Radio.tick).onCoord Coordination.tick

/-- One millisecond of the seconds counter, wrapping to 0 after 4,294,967,295 (R194). -/
def Clock.countSecond (c : Clock) : Clock :=
  if c.subSecond + 1 < 1000 then { c with subSecond := c.subSecond + 1 }
  else { c with subSecond := 0, seconds := (c.seconds + 1) % 4294967296 }

/-- 1/12 ms of the sub-second count, which runs in start-up and in the running machine alike (R194). -/
def Clock.fine (c : Clock) : Clock :=
  if c.subFraction + 1 < ticksPerMs then { c with subFraction := c.subFraction + 1 }
  else { c.countSecond with subFraction := 0 }

/-- One whole millisecond of the time base, with the timers at each ten. -/
def State.wholeMs (s : State) : State :=
  let s1 := s.onClock fun c => { c with ms := c.ms + 1, fraction := 0 }
  if s1.clock.ms % 10 = 0 then s1.tenMs else s1

/-- 1/12 ms of the time base. -/
def State.timeBase (s : State) : State :=
  if s.clock.fraction + 1 < ticksPerMs then s.onClock fun c => { c with fraction := c.fraction + 1 } else s.wholeMs

/-- The contact filters (R65). -/
def Mech.fine (m : Mech) : Mech := { m with openInput := m.openInput.tick, closedInput := m.closedInput.tick }

/-- The supply filter (R84). -/
def Energy.fine (e : Energy) : Energy := { e with supplyInput := e.supplyInput.tick }

/-- The panel filters (R161, R162). -/
def Tags.fine (t : Tags) : Tags :=
  { t with
    keyInput := t.keyInput.tick, openInput := t.openInput.tick, closeInput := t.closeInput.tick
    confirmInput := t.confirmInput.tick }

/-- The bit clock of the frame in SENDING (R115). -/
def Radio.fine (r : Radio) : Radio := { r with airTicks := if r.tx = .sending then r.airTicks + 1 else r.airTicks }

/-- What counts finer than 10 ms (R194): the gap timer (R4), the time on the air, and the contact, panel and supply
filters. -/
def State.fineTimers (s : State) : State :=
  ((((s.onMeas fun m => { m with gap := m.gap.map (· + 1) }).onRadio Radio.fine).onMech Mech.fine).onEnergy
    Energy.fine).onTags Tags.fine

/-- 1/12 ms passes: the seconds side of the clock counts in every state, all else in the running machine alone (R194). -/
def State.tick (s : State) : State :=
  let s1 := s.onClock Clock.fine
  if s.running then s1.fineTimers.timeBase else s1

end Sys2Proof.Machine
end

