-- ==== Sys2Proof/Safety.lean ====
section
/-! DEFINITION. The terms of the claims: which blocks two states agree on, the invariants that every step is claimed to
keep, the ranges of the settings tables, and the byte layout of a sample set written out from chapter 1. -/

namespace Sys2Proof

/-- The requests of the maintenance port (chapter 10). -/
def Instr.isPortRequest : Instr → Bool
  | .identityRead _ | .statusRead _ | .peerRead _ | .localTagRead _ | .feederTagRead _ | .faultRecordRead _
  | .countersRead _ | .causeRead _ | .trip _ | .close _ | .testStart _ | .testAbort _ | .setClock _ _
  | .enableCauses _ _ | .restart _ | .unknownRequest _ _ => true
  | _ => false

/-- The commands that start-up takes: resets, the image read, and what the port does at the end of a transaction. -/
def Instr.takenInStartUp : Instr → Bool
  | .powerOn | .resetPin | .imageRead _ _ | .chipSelectRelease _ => true
  | _ => false

end Sys2Proof

namespace Sys2Proof.Machine

/-! ## Frames by block -/

/-- The parts of the state: the blocks of spec/00_scope.md section 3, with the queue and the start-up mark. -/
inductive Block where
  | pending | startUp | loader | clock | meas | mail | oc | seq | mech | gate | energy | battery | radio | peers
  | coord | tags | log | alarms | port
  deriving DecidableEq, Repr

/-- Two states agree on a part. -/
def Block.same : Block → State → State → Prop
  | .pending, s, t => t.pending = s.pending
  | .startUp, s, t => t.startUp = s.startUp
  | .loader, s, t => t.loader = s.loader
  | .clock, s, t => t.clock = s.clock
  | .meas, s, t => t.meas = s.meas
  | .mail, s, t => t.mail = s.mail
  | .oc, s, t => t.oc = s.oc
  | .seq, s, t => t.seq = s.seq
  | .mech, s, t => t.mech = s.mech
  | .gate, s, t => t.gate = s.gate
  | .energy, s, t => t.energy = s.energy
  | .battery, s, t => t.battery = s.battery
  | .radio, s, t => t.radio = s.radio
  | .peers, s, t => t.peers = s.peers
  | .coord, s, t => t.coord = s.coord
  | .tags, s, t => t.tags = s.tags
  | .log, s, t => t.log = s.log
  | .alarms, s, t => t.alarms = s.alarms
  | .port, s, t => t.port = s.port

/-- From `s` to `t` nothing changes outside the parts listed. -/
def Only (touched : List Block) (s t : State) : Prop := ∀ b : Block, b ∉ touched → b.same s t

/-! ## Resets (R189, R193) -/

/-- What a RESET pin reset or a RESTART leaves from `s` to `t`: the counters, wear, event number, charge, log and
seconds that the reset tables keep, and every output off (R15, R64, R75, R76, R94, R113, R133, R158, R178, R181, R189,
R193, R194). -/
structure KeptByReset (s t : State) : Prop where
  queue : t.pending = s.pending
  seconds : t.clock.seconds = s.clock.seconds ∧ t.clock.subSecond = s.clock.subSecond ∧
    t.clock.subFraction = s.clock.subFraction
  measurement : t.meas.setsRejected = s.meas.setsRejected ∧ t.meas.blocksDiscarded = s.meas.blocksDiscarded ∧
    t.meas.losses = s.meas.losses
  eventNumber : t.seq.eventNumber = s.seq.eventNumber
  operations : t.mech.trips = s.mech.trips ∧ t.mech.closes = s.mech.closes ∧ t.mech.wear = s.mech.wear
  expiries : t.energy.expiries = s.energy.expiries
  charge : t.battery.cq = s.battery.cq ∧ t.battery.soc = s.battery.soc ∧
    t.battery.uncalibrated = s.battery.uncalibrated ∧ t.battery.last = s.battery.last ∧
    t.battery.judged = s.battery.judged
  radio : t.radio.framesSent = s.radio.framesSent ∧ t.radio.framesAccepted = s.radio.framesAccepted ∧
    t.radio.badFrames = s.radio.badFrames ∧ t.radio.duplicates = s.radio.duplicates ∧
    t.radio.framesRefused = s.radio.framesRefused ∧ t.radio.addressConflicts = s.radio.addressConflicts ∧
    t.radio.outboxOverflow = s.radio.outboxOverflow ∧ t.radio.channelJams = s.radio.channelJams ∧
    t.radio.windowsClosed = s.radio.windowsClosed
  peers : t.peers.tableFull = s.peers.tableFull ∧ t.peers.evictions = s.peers.evictions ∧
    t.peers.payloadsRefused = s.peers.payloadsRefused
  generations : t.tags.slots = s.tags.slots.map fun x => ⟨none, x.counter⟩
  tags : t.tags.asksTaken = s.tags.asksTaken ∧ t.tags.duplicateAsks = s.tags.duplicateAsks ∧
    t.tags.payloadsRefused = s.tags.payloadsRefused ∧ t.tags.recallsIgnored = s.tags.recallsIgnored ∧
    t.tags.recallConflicts = s.tags.recallConflicts
  records : t.log = s.log
  portErrors : t.port.errors = s.port.errors

/-- What every reset leaves behind in start-up: every output line off, the tables empty, TAGS UNCONFIRMED set, no cause
pending (R16, R40, R64, R82, R96, R113, R134, R159, R179, R184, R189). -/
structure Released (t : State) : Prop where
  coils : t.tripCoilDriven = false ∧ t.closeCoilDriven = false ∧ t.mech.operation = .none ∧ t.mech.heldTrip = false
  chargers : t.tripChargerEnabled = false ∧ t.closeChargerEnabled = false ∧ t.chargerCommand = none
  testLoad : t.testLoadOn = false
  radio : t.txKeyOn = false ∧ t.receiverPowered = false ∧ t.radio.outbox = []
  alert : t.alertLow = false ∧ t.alarms.flags = 0#12
  measurement : t.meas.state = .recovering ∧ t.meas.recovery = 0 ∧ t.meas.gap = none ∧
    t.meas.src.presence = .unknown ∧ t.meas.load.presence = .unknown
  overcurrent : t.oc.unit = .quiet ∧ t.oc.offer = none ∧ t.oc.fast = Quad.zero ∧ t.oc.delayed = Quad.zero
  event : t.seq.event = none
  readiness : t.energy.tripReady = false ∧ t.energy.closeReady = false
  grade : t.battery.grade = .critical
  refusal : t.gate = none
  peers : t.peers.held = []
  tags : t.tags.unconfirmed = true ∧ t.tags.overflow = false ∧ t.tags.feeder = List.replicate 24 none ∧
    t.tags.dedupe = []

/-! ## The switch and the sequence (3.1, 4.2, 4.4, 4.5, R22, R30) -/

/-- What holds of the Mechanism Driver: a coil is driven exactly while its operation is in flight, a held trip waits
behind a close alone, and the operation timer and the trip-start Q go with their operations. -/
structure MechInv (m : Mech) : Prop where
  tripCoil : m.tripCoil = true ↔ m.operation = .trip
  closeCoil : m.closeCoil = true ↔ m.operation = .close
  held : m.heldTrip = true → m.operation = .close
  timer : m.operationTimer.isSome ↔ m.operation ≠ .none
  startQ : m.tripStartQ.isSome ↔ m.operation = .trip

/-- What holds of the accumulators (R22): each lies in 0..1,048,576, an unarmed one is 0, and in QUIET and WATCHING none
is armed. -/
structure OcInv (u : Oc) : Prop where
  fastFull : u.fast.a ≤ 1048576 ∧ u.fast.b ≤ 1048576 ∧ u.fast.c ≤ 1048576 ∧ u.fast.g ≤ 1048576
  delayedFull : u.delayed.a ≤ 1048576 ∧ u.delayed.b ≤ 1048576 ∧ u.delayed.c ≤ 1048576 ∧ u.delayed.g ≤ 1048576
  fastUnarmed : u.fastArmed = false → u.fast = Quad.zero
  delayedUnarmed : u.delayedArmed = false → u.delayed = Quad.zero
  resting : u.unit = .quiet ∨ u.unit = .watching → u.fastArmed = false ∧ u.delayedArmed = false

/-- The Sequence Controller and the Mechanism Driver together: TRIPPING has a trip in flight and RECLOSING a close,
and no other state has an operation; a JAMMED switch stands in LOCKOUT or, at a TIE, in STANDBY; in the open states
and in RECLOSING the Overcurrent Unit is QUIET with no offer; start-up has no operation and no sequence. -/
structure SwitchInv (s : State) : Prop where
  mech : MechInv s.mech
  tripping : s.seq.phase = .tripping ↔ s.mech.operation = .trip
  reclosing : s.seq.phase = .reclosing ↔ s.mech.operation = .close
  jammed : s.mech.position = .jammed → s.seq.phase = .lockout ∨ s.seq.phase = .standby
  resting : s.seq.phase.isOpen = true ∨ s.seq.phase = .reclosing → s.oc.unit = .quiet ∧ s.oc.offer = none
  starting : s.startUp ≠ none → s.seq.phase = .lockout

/-- Hot-line mode and the automatic reclose (R50, R58): in hot-line mode the sequence is not in DEAD or RECHARGE WAIT,
from which alone a reclose is asked. The shot counter and the configured plan have at least one shot. -/
structure HotLineInv (s : State) : Prop where
  noDeadTime : s.seq.hotLine = true → s.seq.phase ≠ .dead ∧ s.seq.phase ≠ .rechargeWait
  shot : 1 ≤ s.seq.shot
  plan : 1 ≤ s.cfg.sequence.shots

/-- What every reset leaves and start-up keeps until START (R30, R82, R134, R179): no tag in either table, the receiver
asleep, the transmitter and the duty cycle at rest, the Overcurrent Unit QUIET without an offer, and no operation. -/
structure StartingInv (s : State) : Prop where
  tags : s.startUp ≠ none → (∀ x ∈ s.tags.slots, x.tag = none) ∧ ∀ e ∈ s.tags.feeder, e = none
  line : s.startUp ≠ none → s.radio.rx = .sleep ∧ s.radio.tx = .idle ∧ s.radio.duty = .off
  unit : s.startUp ≠ none → s.oc.unit = .quiet ∧ s.oc.offer = none
  operation : s.startUp ≠ none → s.mech.operation = .none

/-! ## Queues, tables and logs (R121, R125, R135, R160, R163, R166, R181) -/

/-- The outbox (R125): at most eight notices, URGENT before ROUTINE, at most one STATE. -/
structure OutboxInv (r : Radio) : Prop where
  capacity : r.outbox.length ≤ 8
  order : r.outbox.Pairwise fun first later => later.kind.urgent = true → first.kind.urgent = true
  oneState : (r.outbox.filter fun n => n.kind = .state).length ≤ 1

/-- The fixed tables and bounded lists. -/
structure TablesInv (s : State) : Prop where
  peers : s.peers.slots.length = 16
  localTags : s.tags.slots.length = 8
  feederTags : s.tags.feeder.length = 24
  dedupe : s.tags.dedupe.length ≤ 4
  records : s.log.records.length ≤ 32

/-- The Peer Table holds at most one record for an address. -/
def PeersInv (s : State) : Prop := (s.peers.held.map Peer.address).Nodup

/-- The Station Clock (R194): the counts of a millisecond, of a second, and of 32 bits of seconds. -/
structure ClockInv (c : Clock) : Prop where
  fraction : c.fraction < 12 ∧ c.subFraction < 12
  subSecond : c.subSecond < 1000
  seconds : c.seconds < 4294967296

/-! ## Energy and battery (R101, R111) -/

/-- The table of R111. -/
def powerModeTable (supply : Bool) (grade : BatteryGrade) : PowerMode :=
  match supply, grade with
  | true, _ => .full
  | false, .good | false, .fair => .full
  | false, .low => .economy
  | false, .critical | false, .failed | false, .absent => .survival

/-- What holds of the battery: once control is with the blocks the power mode is that of R111 and Cq lies in 0..Cfull
(R101), SOC lies in 0..10000, the charger is OFF until the first aux update (R97), and a RUNNING test has the charger in
TEST (R105). -/
structure BatteryInv (s : State) : Prop where
  mode : s.startUp = none → s.battery.mode = powerModeTable s.energy.supply s.battery.grade
  charge : s.startUp = none → s.battery.cq ≤ s.derived.cfull
  soc : s.battery.soc ≤ 10000
  unseen : s.battery.seen = false → s.battery.charger = .off
  testing : s.battery.test = .running → s.battery.charger = .test

/-! ## Ranges of the settings tables (1.9, 2.7, 3.13, 4.9, 5.5, 6.6, 7.10, 8.11, 9.11) -/

/-- A value lies in an inclusive range. -/
def within (lo hi v : Nat) : Prop := lo ≤ v ∧ v ≤ hi

/-- R10: the presence window. -/
structure MeasurementInRange (m : MeasurementSettings) : Prop where
  low : within 16 23170 m.low
  high : within 16 23170 m.high
  confirm : within 1 8 m.confirm
  window : m.low < m.high

/-- R18, R19: a curve's used points rise in multiple and do not fall in increment, from 8 to at most 320. `multiple` and
`increment` are those of the last used point before the list. -/
def curveRises (multiple increment : Nat) : List CurvePoint → Prop
  | [] => True
  | p :: ps =>
    within 1 1048576 p.increment ∧
      (if p.used then
        multiple < p.multiple ∧ p.multiple ≤ 320 ∧ increment ≤ p.increment ∧ curveRises p.multiple p.increment ps
      else ¬ (multiple < p.multiple ∧ p.multiple ≤ 320) ∧ curveRises multiple increment ps)

/-- R18, R19: sixteen points, of which point 0 is used with multiple 8. -/
def CurveInRange (c : List CurvePoint) : Prop :=
  c.length = 16 ∧ (∃ p ps, c = p :: ps ∧ p.used = true ∧ p.multiple = 8) ∧ curveRises 7 1 c

structure ProtectionInRange (p : ProtectionSettings) : Prop where
  phasePickup : within 16 23170 p.phasePickup
  groundPickup : within 16 23170 p.groundPickup
  fastCurve : CurveInRange p.fastCurve
  delayedCurve : CurveInRange p.delayedCurve
  fastReset : p.fastReset ≤ 1048576
  delayedReset : p.delayedReset ≤ 1048576
  holdCount : p.holdCount ≤ 25
  window : p.window ≤ 2000
  passageConfirm : within 1 8 p.passageConfirm

structure SequenceInRange (q : SequenceSettings) : Prop where
  shots : within 1 4 q.shots
  curves : q.curves.length = 4
  deadTimes : q.deadTimes.length = 3 ∧ ∀ d ∈ q.deadTimes, within 200 180000 d
  reclaim : within 1 180 q.reclaim
  recharge : q.recharge ≤ 60

structure SwitchInRange (x : SwitchSettings) : Prop where
  contactFilter : within 10 50 x.contactFilter
  tripLimit : within 30 200 x.tripLimit
  closeLimit : within 50 500 x.closeLimit
  wearLimit : x.wearLimit ≤ 4294967295
  presets : x.tripsPreset ≤ 4294967295 ∧ x.closesPreset ≤ 4294967295 ∧ x.wearPreset.a ≤ 4294967295 ∧
    x.wearPreset.b ≤ 4294967295 ∧ x.wearPreset.c ≤ 4294967295

/-- R95: each bank's ready threshold is not above its full mark, and its low mark is below it. -/
structure EnergyInRange (e : EnergySettings) : Prop where
  trip : within 100 4000 e.tripReady ∧ within 100 4000 e.tripLow ∧ within 100 4000 e.tripFull
  close : within 100 4000 e.closeReady ∧ within 100 4000 e.closeLow ∧ within 100 4000 e.closeFull
  tripMarks : e.tripLow < e.tripFull ∧ e.tripReady ≤ e.tripFull
  closeMarks : e.closeLow < e.closeFull ∧ e.closeReady ≤ e.closeFull

/-- R112 with the ranges of 6.6. -/
structure BatteryInRange (b : BatterySettings) : Prop where
  capacity : within 1000 200000 b.capacity
  efficiency : within 200 256 b.efficiency
  nominal : within 20000 32000 b.absorbNominal ∧ within 20000 32000 b.floatNominal
  limits : within 20000 32000 b.vmin ∧ within 20000 32000 b.vmax ∧ b.vmin < b.vmax
  nominalOrder : b.floatNominal ≤ b.absorbNominal
  coefficient : b.coefficient ≤ 60
  currentLimit : within 500 20000 b.currentLimit
  cycle : within 20000 32000 b.rebulk ∧ within 50 5000 b.taper ∧ within 1 24 b.absorbHours
  grading : within 1000 20000 b.absent ∧ within 18000 28000 b.critical ∧ within 18000 30000 b.lowBand ∧
    within 18000 30000 b.fairBand ∧ within 10 600 b.settle
  test : b.testHours ≤ 720 ∧ within 10 240 b.retryMinutes ∧ within 2 60 b.duration ∧ within 500 20000 b.minCurrent
  judging : within 1 5000 b.goodLimit ∧ within 1 5000 b.failLimit ∧ within 18000 28000 b.endVoltage ∧
    within 18000 28000 b.abortFloor
  resistance : b.goodLimit ≤ b.failLimit
  bands : b.absent < b.critical ∧ b.critical ≤ b.lowBand ∧ b.lowBand ≤ b.fairBand

/-- R116 with the ranges of 7.10. -/
structure RadioInRange (r : RadioSettings) : Prop where
  bitRate : r.bitRate = 1200 ∨ r.bitRate = 2400 ∨ r.bitRate = 4800 ∨ r.bitRate = 9600
  key : within 5 100 r.keyUp ∧ within 5 50 r.tail
  channel : within 10 100 r.slot ∧ within 5 60 r.busy
  spacing : within 100 2000 r.spacing
  allowance : within 1 60 r.allowance
  wakeLength : within 64 131072 r.wake
  listen : within 20 500 r.listen
  sleep : within 500 10000 r.sleep
  heartbeat : within 10 600 r.heartbeat
  repeats : within 1 4 r.repeats
  wake : ((r.sleep + r.listen) * r.bitRate + 999) / 1000 + 32 ≤ r.wake

structure IdentityInRange (i : IdentitySettings) : Prop where
  address : within 1 4000 i.address
  sourceSegment : i.sourceSegment ≤ 250
  loadSegment : i.loadSegment ≤ 250
  frequency : i.frequency = 50 ∨ i.frequency = 60

/-- The ranges of 8.11. -/
structure CoordinationInRange (c : CoordinationSettings) : Prop where
  windows : within 100 10000 c.sectionWindow ∧ within 100 10000 c.isolateWindow
  counts : within 1 3 c.sectionalizeCount ∧ within 1 3 c.isolateCount
  tieDelay : within 1 300 c.tieDelay
  validity : within 1 60 c.validity

/-- The ranges of 9.11; the roster holds no crew ID twice (R191). -/
structure CrewInRange (c : CrewSettings) : Prop where
  roster : c.roster.length ≤ 16 ∧ (c.roster.map RosterEntry.crewId).Nodup
  entries : ∀ e ∈ c.roster, within 1 65535 e.crewId ∧ within 1 4 e.grade
  operateGrade : within 1 4 c.operateGrade
  orphanGrade : within 1 4 c.orphanGrade

/-- Every setting lies within its table's range, the cross-checks of the chapters made. -/
structure SettingsInRange (s : Settings) : Prop where
  identity : IdentityInRange s.identity
  measurement : MeasurementInRange s.measurement
  protection : ProtectionInRange s.protection
  sequence : SequenceInRange s.sequence
  switch : SwitchInRange s.switch
  energy : EnergyInRange s.energy
  battery : BatteryInRange s.battery
  radio : RadioInRange s.radio
  coordination : CoordinationInRange s.coordination
  crew : CrewInRange s.crew

/-! ## Filtered inputs (R65, R84, R161) -/

/-- The level that a filter of some ms gives: the new one once it has held, until then the one taken. -/
def levelNow (i : Input) (ms : Nat) (present : Bool) : Bool :=
  match i.timer with
  | some elapsed => if ms * 12 ≤ elapsed then i.level else present
  | none => present

/-- The input once a level that has held is taken. -/
def takenInput (i : Input) (ms : Nat) : Input :=
  match i.timer with
  | some elapsed => if ms * 12 ≤ elapsed then ⟨i.level, none⟩ else i
  | none => i

/-- The ms for which the level looked at last has stood away from the one taken. -/
def Input.stood (i : Input) : Nat := i.timer.getD 0 / 12

/-- The input after a level is seen on it that has stood there without interruption for `held` ms: a return to the level
taken stops the filter, and otherwise the filter stands at those ms, with the part of one that it has counted when it
agrees with them. -/
def seenInput (i : Input) (level : Bool) (held : Nat) (present : Bool) : Input :=
  { level
    timer :=
      if level = present then none
      else if i.level = level ∧ i.stood = held then some (max (held * 12) (i.timer.getD 0))
      else some (held * 12) }

/-- The level looked at last, away from the one taken, had held for the filter's ms before the level now there, with
`held` ms behind it, began to stand: it is still to be taken. -/
def StillToTake (i : Input) (held ms : Nat) (present : Bool) : Prop :=
  i.level ≠ present ∧ ∃ elapsed, i.timer = some elapsed ∧ (ms + held) * 12 ≤ elapsed

/-- A level seen with `held` ms behind it has held for the filter's ms, and no earlier one is still to be taken. -/
def HasHeld (i : Input) (held ms : Nat) (present : Bool) : Prop := ¬ StillToTake i held ms present ∧ ms ≤ held

/-- A level seen is the level taken, or has not yet held, and no earlier one is still to be taken. -/
def NotYet (i : Input) (level : Bool) (held ms : Nat) (present : Bool) : Prop :=
  ¬ StillToTake i held ms present ∧ (level = present ∨ held < ms)

/-- A level seen is the level taken, or is taken now, and no earlier one is still to be taken. -/
def Settled (i : Input) (level : Bool) (held ms : Nat) (present : Bool) : Prop :=
  ¬ StillToTake i held ms present ∧ (level = present ∨ ms ≤ held)

/-- A level seen is the one looked at last, and has stood since its filter started; the filter of the level taken is at
rest. -/
def Stands (i : Input) (level : Bool) (held : Nat) (present : Bool) : Prop :=
  i.level = level ∧ i.stood ≤ held ∧ (level = present → i.timer = none)

/-- The input 1/12 ms later. -/
def tickedInput (i : Input) : Input := { i with timer := i.timer.map (· + 1) }

/-! ## The sample set as it goes over the sample port (layout table of 1.1) -/

/-- A signed 16-bit value as two bytes, high byte first. -/
def signedBytes (x : Int) : List Byte := be16 (x % 65536).toNat

/-- The bytes of the aux group. -/
def auxBytes (g : AuxGroup) : List Byte :=
  be16 g.vbat ++ signedBytes g.ibat ++ be16 g.vtrip ++ be16 g.vclose ++ signedBytes g.temp

/-- The transfer of a sample set: marker 101, AUX, set count, then the values. -/
def sampleBytes (x : SampleSet) : List Byte :=
  [byte (160 + flag x.aux.isSome 16 + x.count)] ++ signedBytes x.ia ++ signedBytes x.ib ++ signedBytes x.ic ++
    signedBytes x.vsrc ++ signedBytes x.vload ++ ((x.aux.map auxBytes).getD [])

/-- A signed 16-bit range. -/
def signed16 (x : Int) : Prop := -32768 ≤ x ∧ x ≤ 32767

/-- A sample set that the front end can send. -/
structure SampleSet.Sendable (x : SampleSet) : Prop where
  count : x.count ≤ 15
  samples : signed16 x.ia ∧ signed16 x.ib ∧ signed16 x.ic ∧ signed16 x.vsrc ∧ signed16 x.vload
  auxCount : x.aux.isSome → x.count = 15
  auxRange : ∀ g, x.aux = some g →
    g.vbat ≤ 65535 ∧ signed16 g.ibat ∧ g.vtrip ≤ 65535 ∧ g.vclose ≤ 65535 ∧ signed16 g.temp

/-- R6, R7: the six sums with the squares of one set added, the residual clipped to 16 bits. -/
def sumsWith (m : Sums) (x : SampleSet) : Sums where
  a := m.a + x.ia.natAbs ^ 2
  b := m.b + x.ib.natAbs ^ 2
  c := m.c + x.ic.natAbs ^ 2
  g := m.g + (max (-32768) (min 32767 (x.ia + x.ib + x.ic))).natAbs ^ 2
  src := m.src + x.vsrc.natAbs ^ 2
  load := m.load + x.vload.natAbs ^ 2

/-- R8: the clip marks with those of one set added. -/
def clipsWith (m : Quad Bool) (x : SampleSet) : Quad Bool where
  a := m.a || x.ia = -32768 || x.ia = 32767
  b := m.b || x.ib = -32768 || x.ib = 32767
  c := m.c || x.ic = -32768 || x.ic = 32767
  g := m.g || x.ia + x.ib + x.ic ≤ -32768 || 32767 ≤ x.ia + x.ib + x.ic

/-! ## The code tables of 8.4 and 10.3 -/

/-- The code of a value: its place in its table, in the order in which the spec lists the values. -/
def codeIn {α : Type} [DecidableEq α] (table : List α) (x : α) : Nat := table.idxOf x

def roleCodes : List Role := [.head, .midpoint, .tie]
def positionCodes : List Position := [.opened, .closed, .disagree, .jammed]
def presenceCodes : List Presence := [.live, .dead, .unknown]
def linkCodes : List LinkGrade := [.unrated, .good, .marginal, .poor]
def sequenceCodes : List SeqState :=
  [.ready, .timing, .hold, .tripping, .dead, .rechargeWait, .reclosing, .reclaim, .lockout, .standby]
def reasonCodes : List (Option LockoutReason) :=
  [none, some .fault, some .hotLine, some .energy, some .gate, some .mechanism, some .sectionalized, some .isolated,
    some .manual, some .start, some .handle]
def detailCodes : List (Option GateReason) :=
  [none, some .mechanism, some .unconfirmed, some .measurement, some .tag, some .tripEnergy, some .closeEnergy]
def gradeCodes : List BatteryGrade := [.good, .fair, .low, .critical, .failed, .absent]
def modeCodes : List PowerMode := [.full, .economy, .survival]
def requesterCodes : List (Option Requester) :=
  [none, some .reclose, some .restore, some .panel, some .crew, some .maintenance]
def measCodes : List MeasState := [.sound, .lost, .recovering]
def auxCodes : List AuxState := [.none, .valid, .expired]
def capCodes : List CapCharger := [.firing, .unpowered, .heldOff, .waiting, .charging, .idle]
def candidateCodes : List (Option BatteryGrade) := gradeCodes.map some ++ [none]
def chargerCodes : List BatteryCharger := [.test, .off, .fault, .hot, .cold, .bulk, .absorb, .float]
def testCodes : List TestState := [.idle, .pending, .running]
def resultCodes : List TestResult := [.none, .pass, .marginal, .failed, .loadFault, .aborted, .skipped]
def txCodes : List TxState := [.idle, .defer, .backoff, .keyup, .sending, .tail, .spacing]
def rxCodes : List RxState := [.sleep, .listen, .frame]
def freshnessCodes : List Freshness := [.fresh, .stale, .lost]
def outcomeCodes : List EventOutcome := [.cleared, .lockout, .sectionalized, .isolated]
def tagKindCodes : List TagKind := [.hotLine, .holdOpen]
def scopeCodes : List Scope := [.station, .source, .load]

/-- A mark as a bit of a byte. -/
def mark (b : Bool) (k : Nat) : Nat := if b then 2 ^ k else 0

/-- Elements A, B, C, G in bits 3 to 0. -/
def elementMarks (e : Quad Bool) : Nat := mark e.a 3 + mark e.b 2 + mark e.c 1 + mark e.g 0

/-! ## The areas of the maintenance port (10.3) -/

/-- A row of an area's table: a number of so many bytes, high byte first, at a byte of the area. -/
def row (at_ width n : Nat) : Nat × List Byte :=
  (at_, (List.range width).map fun k => byte (n / 256 ^ (width - 1 - k)))

/-- An area of so many bytes holds the rows of its table. -/
def Laid (length : Nat) (rows : List (Nat × List Byte)) (area : List Byte) : Prop :=
  area.length = length ∧ ∀ r ∈ rows, (area.drop r.1).take r.2.length = r.2

/-- The STATUS table, with the I1 of a test whose discharge current was not below 0 (log entry 6). That the timer of a
served tie delay is sent as 0 (row 97) is log entry 27; that a figure of the last result that was not worked out is
sent as 0 (rows 47, 49, 51 and 53) is log entries 28 and 39. -/
def statusRows (s : State) : List (Nat × List Byte) :=
  let b := s.battery
  let r := s.radio
  let c := s.coord
  [row 0 1 (codeIn sequenceCodes s.seqState), row 1 1 s.seq.shot, row 2 2 s.seq.eventNumber,
    row 4 1 (codeIn reasonCodes s.seq.reason * 16 + codeIn detailCodes s.seq.detail), row 5 1 (mark s.seq.hotLine 7),
    row 6 1 (codeIn positionCodes s.mech.position), row 7 1 (codeIn detailCodes (s.gate.map Refused.reason)),
    row 8 1 (codeIn requesterCodes (s.gate.map Refused.requester)), row 9 4 ((s.gate.map Refused.time).getD 0),
    row 13 1 (codeIn measCodes s.meas.state),
    row 14 1 (codeIn presenceCodes s.meas.src.presence * 4 + codeIn presenceCodes s.meas.load.presence)] ++
  [row 15 1
      (mark s.energy.tripReady 7 + mark s.energy.closeReady 6 + codeIn auxCodes s.energy.aux * 16 +
        mark s.energy.supply 3),
    row 16 1 (codeIn capCodes s.energy.tripCharger), row 17 1 (codeIn capCodes s.energy.closeCharger),
    row 18 2 s.energy.vtrip, row 20 2 s.energy.vclose] ++
  [row 22 1 (codeIn gradeCodes b.grade), row 23 1 (codeIn candidateCodes b.candidate),
    row 24 4 (b.settleTimer.getD 0), row 28 1 (mark b.settleTimer.isSome 7 + mark b.uncalibrated 6),
    row 29 2 b.soc, row 31 5 b.cq, row 36 1 (codeIn chargerCodes b.charger),
    row 37 2 ((s.chargerCommand.map Prod.fst).getD 0), row 39 2 ((s.chargerCommand.map Prod.snd).getD 0),
    row 41 2 b.absorbSet.toNat, row 43 2 b.floatSet.toNat, row 45 1 (codeIn testCodes b.test),
    row 46 1 (codeIn resultCodes b.last.result), row 47 2 (b.last.v0.getD 0), row 49 2 (b.last.v1.getD 0)] ++
  (if 0 ≤ b.last.i1.getD 0 then [row 51 2 (b.last.i1.getD 0).toNat] else []) ++
  [row 53 4 (b.last.r.getD 0), row 57 4 b.last.time] ++
  [row 61 1 (codeIn txCodes r.tx), row 62 1 (codeIn rxCodes r.rx), row 63 1 r.outbox.length] ++
  ((List.range 8).map fun k => row (64 + k) 1 ((r.outbox.map fun n => n.kind.code).getD k 0)) ++
  [row 72 1 r.nextSeq, row 73 1 (codeIn linkCodes r.link), row 74 1 r.windowBad, row 75 1 r.windowSyncs,
    row 76 1 (mark r.jammed 7), row 77 1 r.allowance, row 78 4 (r.heartbeat.getD 0),
    row 82 4 (s.cfg.radio.heartbeat * 1000 * (match b.mode with | .full => 1 | .economy => 4 | .survival => 16))] ++
  [row 86 1 s.seq.sectionalizeCount, row 87 1 s.seq.isolateCount,
    row 88 1
      (mark c.pendingLoss.isSome 7 + mark (c.tie.any TieDelay.served) 6 +
        (match c.tie with | none => 0 | some x => if x.deadIsSource then 1 else 2)),
    row 89 4 (c.pendingLoss.getD 0), row 93 4 (c.countReset.getD 0),
    row 97 4 (match c.tie with | none => 0 | some x => if x.served then 0 else x.elapsed)] ++
  [row 101 1 (mark s.tags.unconfirmed 7 + mark s.tags.overflow 6 + mark s.hotLineCondition 5),
    row 102 1 (s.tags.feeder.countP Option.isSome), row 103 2 s.alarms.flags.toNat, row 105 2 s.alarms.enables.toNat,
    row 107 4 s.clock.seconds, row 111 17 0]

/-- The PEER table, at a time on the time base. -/
def peerRows (now : Nat) (p : Peer) : List (Nat × List Byte) :=
  [row 0 2 p.address, row 5 1 (codeIn freshnessCodes p.freshness), row 6 4 p.interval,
    row 10 1 (mark p.provisional 7 + mark p.restarted 6 + mark p.economyHeard 5 + p.sequenceSet.length),
    row 15 4 p.lastHeard, row 19 4 (min (now - p.lastHeard) 4294967295),
    row 23 1 (mark p.lastState.isSome 7 + mark p.fault.isSome 6 + mark p.isolation.isSome 5)] ++
  (match p.identity with
   | none => [row 2 3 0]
   | some id =>
     [row 2 1 (128 + codeIn roleCodes id.role * 32 + mark id.protective 4), row 3 1 id.source, row 4 1 id.load]) ++
  ((List.range 4).map fun k => row (11 + k) 1 (p.sequenceSet.getD k 0)) ++
  ((List.range 53).map fun k => row (24 + k) 1 (((p.lastState.getD []).getD k 0#8).toNat)) ++
  (match p.fault with
   | none => [row 77 9 0]
   | some f =>
     [row 77 2 f.event, row 79 1 (mark f.clipped 4 + elementMarks f.elements), row 80 1 f.shot, row 81 1 f.highest,
       row 82 4 f.heard]) ++
  (match p.isolation with
   | none => [row 86 9 0]
   | some r =>
     [row 86 2 r.event, row 88 1 (mark r.superseded 1 + mark r.isolated 0), row 89 1 r.faulted, row 90 1 r.cutOff,
       row 91 4 r.heard])

/-- The LOCAL TAG table. -/
def localTagRows (s : State) (x : LocalSlot) : List (Nat × List Byte) :=
  (match x.tag with
   | none => [row 0 15 0]
   | some t =>
     [row 0 1 1, row 1 1 (codeIn tagKindCodes t.kind), row 2 1 (codeIn scopeCodes t.scope),
       row 3 1
         (match t.scope with
          | .station => 0
          | .source => s.cfg.identity.sourceSegment
          | .load => s.cfg.identity.loadSegment),
       row 4 2 t.crewId, row 6 1 t.grade, row 7 1 t.generation, row 8 4 t.placed, row 12 2 t.blocked,
       row 14 1 (mark t.recalled 0)]) ++ [row 15 1 x.counter]

/-- The FEEDER TAG table. -/
def feederTagRows (t : FeederTag) : List (Nat × List Byte) :=
  [row 0 2 t.holder, row 2 1 t.number, row 3 1 t.generation, row 4 1 (codeIn tagKindCodes t.kind),
    row 5 1 (codeIn scopeCodes t.scope), row 6 1 t.segment, row 7 1 t.grade, row 8 2 t.crewId,
    row 10 1 (mark t.orphan 0), row 11 2 t.blocked]

/-- The FAULT RECORD of R186. -/
def faultRecordRows (r : FaultRecord) : List (Nat × List Byte) :=
  [row 0 2 r.number, row 2 4 r.start, row 6 1 (elementMarks r.elements), row 7 4 r.peak.a, row 11 4 r.peak.b,
    row 15 4 r.peak.c, row 19 4 r.peak.g, row 23 1 r.shots, row 24 1 (mark r.fastBlocked 1 + mark r.holdUsed 0),
    row 25 1 (codeIn outcomeCodes r.outcome), row 26 1 (codeIn reasonCodes r.reason),
    row 27 1 (codeIn gradeCodes r.grade)]

/-- The COUNTERS of R186, in their order. -/
def counterRows (s : State) : List (Nat × List Byte) :=
  [row 0 2 s.meas.setsRejected, row 2 2 s.meas.blocksDiscarded, row 4 2 s.meas.losses, row 6 2 s.energy.expiries,
    row 8 2 s.radio.framesSent, row 10 2 s.radio.framesAccepted, row 12 2 s.radio.badFrames,
    row 14 2 s.radio.duplicates, row 16 2 s.radio.framesRefused, row 18 2 s.radio.addressConflicts,
    row 20 2 s.radio.outboxOverflow, row 22 2 s.radio.channelJams, row 24 1 s.radio.windowsClosed,
    row 25 2 s.peers.tableFull, row 27 2 s.peers.evictions, row 29 2 s.peers.payloadsRefused,
    row 31 2 s.tags.asksTaken, row 33 2 s.tags.duplicateAsks, row 35 2 s.tags.payloadsRefused,
    row 37 2 s.tags.recallsIgnored, row 39 2 s.tags.recallConflicts, row 41 4 s.mech.trips, row 45 4 s.mech.closes,
    row 49 4 s.mech.wear.a, row 53 4 s.mech.wear.b, row 57 4 s.mech.wear.c, row 61 2 s.log.written,
    row 63 2 s.log.overwrites, row 65 2 s.port.errors]

/-! ## What a STATE notice can carry (8.4, 9.3) -/

/-- The fields that this station's STATE puts on the air fit their places: eight slots, crew grades 1..4, and the
one-byte and two-byte fields of its tags within their widths. -/
structure Reportable (s : State) : Prop where
  slots : s.tags.slots.length = 8
  sourceSegment : s.cfg.identity.sourceSegment ≤ 250
  loadSegment : s.cfg.identity.loadSegment ≤ 250
  heartbeat : within 10 600 s.cfg.radio.heartbeat
  tags : ∀ x ∈ s.tags.slots, ∀ t, x.tag = some t → within 1 4 t.grade ∧ t.generation < 256 ∧ t.crewId < 65536

/-! ## What the claims say of single commands -/

/-- The used point `k` of a curve is reached by a block (R21). -/
def Reaches (points : List CurvePoint) (table : List Nat) (clip : Bool) (q k : Nat) : Prop :=
  ∃ p T, points[k]? = some p ∧ table[k]? = some T ∧ p.used = true ∧ (clip = true ∨ (table.headD 0 ≤ q ∧ T ≤ q))

/-- The move of R22 for one accumulator. -/
def moves (armed : Bool) (points : List CurvePoint) (reset : Nat) (reached : Option Nat) (before after : Nat) : Prop :=
  (armed = false → after = 0) ∧
    (∀ k p, armed = true → reached = some k → points[k]? = some p → after = min (before + p.increment) 1048576) ∧
    (armed = true → reached = none → after = before - reset)

/-- Some element of a set of accumulators is full. -/
def someFull (x : Quad Nat) : Prop := 1048576 ≤ x.a ∨ 1048576 ≤ x.b ∨ 1048576 ≤ x.c ∨ 1048576 ≤ x.g

/-- The fault record that the end of an open event writes (R180, R181). -/
def recordOf (e : EventContext) (u : Oc) (outcome : EventOutcome) (reason : Option LockoutReason) : FaultRecord where
  number := e.number
  start := e.start
  elements := u.eventSummary.elements
  peak := u.eventSummary.peak
  shots := e.shots
  fastBlocked := u.fastBlocked
  holdUsed := u.eventSummary.holdUsed
  outcome := outcome
  reason := reason
  grade := e.grade

/-- The event open in `s` has ended in `t` with an outcome: one record more, the newest first, at most 32, fast-blocked
cleared, and no event open; with none open the log stays (R36, R39, R44, R181). -/
def eventEnded (s t : State) (outcome : EventOutcome) (reason : Option LockoutReason) : Prop :=
  t.seq.event = none ∧
    (match s.seq.event with
     | none => t.log = s.log
     | some e =>
       t.log.records = (recordOf e s.oc outcome reason :: s.log.records).take 32 ∧
         t.log.written = min (s.log.written + 1) 65535 ∧ t.oc.fastBlocked = false)

/-- The offer of R42 built from the state of the moment. -/
def offerNow (s : State) (shot : Nat) (newEvent : Bool) : Offer where
  shot := shot
  curve := s.planCurve shot
  protective := s.protective
  holdEnabled := !s.seq.hotLine
  hotForced := s.seq.hotLine
  newEvent := newEvent

/-- R165: a hot-line condition that is not the tag of slot 0: a local HOT-LINE tag of another slot, or a feeder one on
the load segment or, at a TIE, on either segment. -/
def OtherHotLine (s : State) : Prop :=
  (∃ n tag, n ≠ 0 ∧ (s.tags.slot n).tag = some tag ∧ tag.kind = .hotLine) ∨
    ∃ e, some e ∈ s.tags.feeder ∧ e.kind = .hotLine ∧ e.segment ≠ 0 ∧
      (e.segment = s.cfg.identity.loadSegment ∨
        (s.cfg.identity.role = .tie ∧ e.segment = s.cfg.identity.sourceSegment))

/-- The Close Gate's six checks all hold (R78, R79). -/
structure GatePasses (s : State) : Prop where
  position : s.mech.position = .opened ∨ s.mech.position = .closed
  atRest : s.mech.operation = .none
  confirmed : s.tags.unconfirmed = false
  sound : s.meas.state = .sound
  noOverflow : s.tags.overflow = false
  localTags : ∀ x ∈ s.tags.slots, ∀ t, x.tag = some t → t.scope ≠ .station ∧ s.scopeSegment t.scope ∉ s.targets
  feederTags : ∀ x ∈ s.tags.feeder, ∀ t, x = some t → t.segment ∉ s.targets
  tripReady : s.energy.tripReady = true
  closeReady : s.energy.closeReady = true

/-- The two sides of the station give the target segments: not LIVE, and not 0 (R79). -/
def IsTarget (s : State) (n : Nat) : Prop :=
  n ≠ 0 ∧ ((s.meas.src.presence ≠ .live ∧ n = s.cfg.identity.sourceSegment) ∨
    (s.meas.load.presence ≠ .live ∧ n = s.cfg.identity.loadSegment))

/-- R79: the fourth check finds a blocking condition. -/
def TagBlocks (s : State) : Prop :=
  s.tags.overflow = true ∨
    (∃ x ∈ s.tags.slots, ∃ t, x.tag = some t ∧ (t.scope = .station ∨
      (t.scope = .source ∧ IsTarget s s.cfg.identity.sourceSegment) ∨
      (t.scope = .load ∧ IsTarget s s.cfg.identity.loadSegment))) ∨
    (∃ t, some t ∈ s.tags.feeder ∧ IsTarget s t.segment)

/-- R78: the six checks in order, the first that fails giving the reason. -/
structure GateOrder (s : State) : Prop where
  mechanism : s.mech.position = .jammed ∨ s.mech.position = .disagree ∨ s.mech.operation ≠ .none →
    s.gateReason = some .mechanism
  unconfirmed : s.mech.position = .opened ∨ s.mech.position = .closed → s.mech.operation = .none →
    s.tags.unconfirmed = true → s.gateReason = some .unconfirmed
  measurement : s.mech.position = .opened ∨ s.mech.position = .closed → s.mech.operation = .none →
    s.tags.unconfirmed = false → s.meas.state ≠ .sound → s.gateReason = some .measurement
  tag : s.mech.position = .opened ∨ s.mech.position = .closed → s.mech.operation = .none →
    s.tags.unconfirmed = false → s.meas.state = .sound → TagBlocks s → s.gateReason = some .tag
  tripEnergy : s.mech.position = .opened ∨ s.mech.position = .closed → s.mech.operation = .none →
    s.tags.unconfirmed = false → s.meas.state = .sound → ¬ TagBlocks s → s.energy.tripReady = false →
    s.gateReason = some .tripEnergy
  closeEnergy : s.mech.position = .opened ∨ s.mech.position = .closed → s.mech.operation = .none →
    s.tags.unconfirmed = false → s.meas.state = .sound → ¬ TagBlocks s → s.energy.tripReady = true →
    s.energy.closeReady = false → s.gateReason = some .closeEnergy
  pass : GatePasses s ↔ s.gateReason = none

/-- From `s`, the close has been put in flight in `t` (R50, R57, R69, R87). -/
structure CloseStarted (s t : State) (automatic : Bool) : Prop where
  phase : t.seq.phase = .reclosing
  automatic : t.seq.recloseInFlight = automatic
  timers : t.seq.deadTimer = none ∧ t.seq.waitTimer = none ∧ t.seq.reclaimTimer = none
  shot : t.seq.shot = s.seq.shot ∧ t.seq.event = s.seq.event ∧ t.seq.reason = s.seq.reason ∧
    t.seq.eventNumber = s.seq.eventNumber ∧ t.seq.hotLine = s.seq.hotLine
  unit : t.oc.unit = .quiet ∧ t.oc.offer = none ∧ t.oc.fast = Quad.zero ∧ t.oc.delayed = Quad.zero ∧
    t.oc.fastBlocked = s.oc.fastBlocked ∧ t.oc.eventSummary = s.oc.eventSummary
  mech : t.mech = { s.mech with
    operation := .close, operationTimer := some 0, disagreeTimer := none, closeCoil := true }
  energy : t.energy.closeReady = false ∧ t.energy.closeFired = 2 ∧ t.energy.closeCharger = .firing ∧
    t.energy.tripReady = s.energy.tripReady ∧ t.energy.tripFired = s.energy.tripFired ∧ t.energy.aux = s.energy.aux
  records : t.gate = s.gate ∧ t.log = s.log ∧ t.alarms = s.alarms

/-- R48: where a completed trip leads, by causes, mark, role and shot. -/
def afterTrip (s : State) : SeqPhase × Option LockoutReason :=
  let c := s.seq.causes
  let plan :=
    if s.seq.hotLine ∨ s.cfg.identity.role = .tie ∨ s.loader.defaulted = true then 1 else s.cfg.sequence.shots
  if c.manual then (if s.cfg.identity.role = .tie then (.standby, none) else (.lockout, some .manual))
  else if c.sectionalize then (.lockout, some .sectionalized)
  else if c.isolate then (.lockout, some .isolated)
  else if s.seq.hotMark then (.lockout, some .hotLine)
  else if s.seq.shot < plan then (.dead, s.seq.reason)
  else (.lockout, some .fault)

/-- One phase's wear after a trip that started with a Q (R76). -/
def wearAfter (wear q : Nat) : Nat := min (wear + q / 1048576) 4294967295

/-- From `s`, the switch has gone JAMMED in `t` (R49, R72). -/
structure WentJammed (s t : State) : Prop where
  mech : t.mech = { s.mech with
    position := .jammed, operation := .none, operationTimer := none, disagreeTimer := none, tripCoil := false
    closeCoil := false, tripStartQ := none, heldTrip := false }
  phase : t.seq.phase = .lockout ∧ t.seq.reason = some .mechanism ∧ t.seq.detail = none
  causes : t.seq.causes = TripCauses.none ∧ t.seq.heldCauses = TripCauses.none
  unit : t.oc.unit = .quiet ∧ t.oc.offer = none
  event : eventEnded s t .lockout (some .mechanism)
  alarms : t.alarms.isPending .mechanismFault = true ∧ t.alarms.isPending .lockout = true
  only : Only [.mech, .alarms, .energy, .seq, .coord, .oc, .mail, .log] s t

/-- The start conditions of a load test (R104). -/
structure TestMayStart (s : State) (g : AuxGroup) : Prop where
  charger : s.battery.charger = .float ∨ (s.battery.charger = .fault ∧ s.battery.grade = .failed)
  sequence : s.seqState = .ready ∨ s.seqState = .lockout ∨ s.seqState = .standby
  atRest : s.mech.operation = .none
  source : s.meas.src.presence = .live
  tripReady : s.energy.tripReady = true
  held : s.battery.held = some g
  seen : s.battery.seen = true

/-- Some start condition of a load test is missing (R104): the charger is neither in FLOAT nor in FAULT for a FAILED
grade, the sequence state is not READY, LOCKOUT or STANDBY, an operation is in flight, the source side is not LIVE,
TRIP READY is clear, or no aux group is held. -/
def TestMustWait (s : State) : Prop :=
  (s.battery.charger ≠ .float ∧ ¬ (s.battery.charger = .fault ∧ s.battery.grade = .failed)) ∨
    (s.seqState ≠ .ready ∧ s.seqState ≠ .lockout ∧ s.seqState ≠ .standby) ∨ s.mech.operation ≠ .none ∨
    s.meas.src.presence ≠ .live ∨ s.energy.tripReady = false ∨ s.battery.held = none

/-- From `s`, a load test is RUNNING in `t` (R105). -/
def testStarted (s t : State) (g : AuxGroup) : Prop :=
  t.testLoadOn = true ∧ t.chargerCommand = none ∧
    t.battery =
      { s.battery with
        test := .running, v0 := g.vbat, durationTimer := some 0, pendingTimer := none, intervalTimer := none
        retryTimer := none, charger := .test, absorbTimer := none }

/-- R106: the result of a test that has run its full duration, for the R worked out. -/
def resultOf (b : BatterySettings) (v1 : Nat) (i1 : Int) (r : Nat) : TestResult :=
  if i1 < (b.minCurrent : Int) then .loadFault
  else if b.failLimit < r ∨ v1 < b.endVoltage then .failed
  else if b.goodLimit < r then .marginal
  else .pass

/-- The table of R108. -/
def gradeTable (b : BatterySettings) (run : Nat) (judged : Judged) (uncalibrated : Bool) (soc vbat : Nat) :
    BatteryGrade :=
  if run = 3 then .absent
  else if judged = .failed then .failed
  else if vbat < b.critical ∨ (uncalibrated = false ∧ soc < 1000) then .critical
  else if (uncalibrated = true ∧ vbat < b.lowBand) ∨ (uncalibrated = false ∧ soc < 3000) then .low
  else if (uncalibrated = true ∧ vbat < b.fairBand) ∨ (uncalibrated = false ∧ soc < 7000) ∨ judged = .marginal then
    .fair
  else .good

/-- R101: Cq moved by a held Ibat and clamped into 0..Cfull. -/
def chargeMoved (s : State) (g : AuxGroup) : Nat :=
  if 0 < g.ibat then
    min (s.battery.cq + g.ibat.toNat * s.cfg.battery.efficiency / 256) s.derived.cfull
  else min (s.battery.cq - g.ibat.natAbs) s.derived.cfull

/-- R99: the hot condition after an aux update. -/
def hotAfter (s : State) (g : AuxGroup) : Bool := 550 < g.temp || (s.battery.hot && 500 < g.temp)

/-- R99: the cold condition after an aux update. -/
def coldAfter (s : State) (g : AuxGroup) : Bool := g.temp < -200 || (s.battery.cold && g.temp < -150)

/-- R100: a setpoint for a nominal voltage, 0.1 °C steps of the coefficient rounded toward 0. -/
def setpointFor (b : BatterySettings) (nominal : Nat) (g : AuxGroup) : Int :=
  max (b.vmin : Int) (min (b.vmax : Int)
    ((nominal : Int) - ((b.coefficient : Int) * (g.temp - 250)).tdiv 10))

/-- R98, R102: the aux update that takes a charger from ABSORB to FLOAT by taper, with no forced condition (R97). -/
def Tapers (s : State) (p : Publication) (g : AuxGroup) : Prop :=
  p.auxNew = true ∧ s.battery.test ≠ .running ∧ s.battery.charger = .absorb ∧ s.energy.supply = true ∧
    s.battery.grade ≠ .absent ∧ s.battery.grade ≠ .failed ∧ hotAfter s g = false ∧ coldAfter s g = false ∧
    g.ibat < (s.cfg.battery.taper : Int)

/-- No load test runs or starts at a publication that holds a group (R104). -/
def NoTest (s : State) (g : AuxGroup) : Prop :=
  s.battery.test = .idle ∨
    (s.battery.test = .pending ∧ TestMustWait { s with battery := { s.battery with held := some g } })

/-- R98: the cycle state after an aux update without a forced condition. -/
def cycleAfter (s : State) (g : AuxGroup) : BatteryCharger :=
  match s.battery.charger with
  | .bulk => if setpointFor s.cfg.battery s.cfg.battery.absorbNominal g ≤ (g.vbat : Int) then .absorb else .bulk
  | .absorb => if g.ibat < (s.cfg.battery.taper : Int) then .float else .absorb
  | .float => if g.vbat < s.cfg.battery.rebulk then .bulk else .float
  | .test | .off | .fault | .hot | .cold => .bulk

/-- R90, R91: a capacitor charger after an aux update at which no forced condition holds, by its state before, its
post-fire count before and its bank's new voltage. -/
def capAfter (before : CapCharger) (fired value low full : Nat) : CapCharger :=
  match before with
  | .idle => if value < low then .charging else .idle
  | .charging => if full ≤ value ∧ fired ≤ 1 then .idle else .charging
  | .firing | .unpowered | .heldOff | .waiting => if 2 ≤ fired ∨ value < full then .charging else .idle

/-- R109: the worst better candidate since the settle timer started, with one more. -/
def worstOf (earlier : Option BatteryGrade) (g : BatteryGrade) : BatteryGrade :=
  match earlier with
  | some e => if e.code < g.code then g else e
  | none => g

/-- R145, R146: a held record of a FRESH, protective station downstream of this one, neither being a TIE: its source
segment is this station's load segment, and not 0. -/
structure BlockingRecord (s : State) (q : Peer) (id : PeerIdentity) : Prop where
  held : q ∈ s.peers.held
  identity : q.identity = some id
  fresh : q.freshness = .fresh
  protective : id.protective = true
  downstream : id.source = s.cfg.identity.loadSegment ∧ s.cfg.identity.loadSegment ≠ 0
  notTie : s.cfg.identity.role ≠ .tie ∧ id.role ≠ .tie

/-- R32, R146: such a record is held. -/
def BlockingPeerHeld (s : State) : Prop := ∃ q id, BlockingRecord s q id

/-- R35, R146: a FAULT of such a station was heard no more than the coordination window before now. -/
def FaultHeardRecently (s : State) : Prop :=
  ∃ q id r, BlockingRecord s q id ∧ q.fault = some r ∧ s.clock.ms / 10 * 10 ≤ r.heard + s.cfg.protection.window

/-- R39: the event summary after a block is evaluated that leaves the unit state `after`. A RUNNING entry with new
event set clears it first; the block is taken into it while an event is open, one whose pickup report waits among
them; an entry to HOLD sets hold used. -/
def eventSummaryAfter (s : State) (p : Publication) (after : UnitState) : EventSummary :=
  let picked := s.pickedSet p
  let starts := s.oc.unit = .watching ∧ picked.any = true ∧ s.oc.offer.map Offer.newEvent = some true
  let before := if starts then EventSummary.empty else s.oc.eventSummary
  let counted := s.seq.event ≠ none ∨ .pickup true ∈ s.mail.reports ∨ starts
  { elements :=
      if counted then
        ⟨before.elements.a || picked.a, before.elements.b || picked.b, before.elements.c || picked.c,
          before.elements.g || picked.g⟩
      else before.elements
    peak :=
      if counted then
        ⟨max before.peak.a p.q.a, max before.peak.b p.q.b, max before.peak.c p.q.c, max before.peak.g p.q.g⟩
      else before.peak
    holdUsed := before.holdUsed || decide (s.oc.unit ≠ .hold ∧ after = .hold)
    fastBlocked := before.fastBlocked }

/-- R38: the shot summary held before a picked-up block; a RUNNING entry under an offer of another shot, or of a new
event, begins it anew. -/
def summaryBefore (s : State) (o : Offer) : Option ShotSummary :=
  if s.oc.unit = .watching then (if o.newEvent then none else s.oc.shotSummary.filter fun x => x.shot = o.shot)
  else s.oc.shotSummary

/-- R38: the shot of a picked-up block. -/
def shotOfBlock (s : State) (o : Offer) : Nat :=
  if s.oc.unit = .watching then o.shot else (s.oc.active.map Active.shot).getD o.shot

/-- R38: the shot summary that a picked-up block leaves, before the indicated mark. -/
def summaryWith (s : State) (p : Publication) (o : Offer) : ShotSummary :=
  let before := (summaryBefore s o).getD ⟨shotOfBlock s o, Quad.none, 0, false, false⟩
  let picked := s.pickedSet p
  let curve := s.cfg.protection.delayedCurve
  let phase (clip : Bool) (q : Nat) : Nat := (reachedPoint curve s.derived.phaseDelayed clip q).getD 0
  { before with
    elements :=
      ⟨before.elements.a || picked.a, before.elements.b || picked.b, before.elements.c || picked.c,
        before.elements.g || picked.g⟩
    highest :=
      [phase p.clips.a p.q.a, phase p.clips.b p.q.b, phase p.clips.c p.q.c,
          (reachedPoint curve s.derived.groundDelayed p.clips.g p.q.g).getD 0].foldl max before.highest
    clipped := before.clipped || p.clips.a || p.clips.b || p.clips.c || p.clips.g }

/-- R145: segments of a station that this station shares, 0 standing for none. -/
def SharesSegment (s : State) (id : PeerIdentity) : Prop :=
  ∃ n, n ≠ 0 ∧ (n = id.source ∨ n = id.load) ∧ (n = s.cfg.identity.sourceSegment ∨ n = s.cfg.identity.loadSegment)

/-- R137: a record whose segments are unknown, or of which this station shares none. -/
def NonAdjacent (s : State) (p : Peer) : Prop := ∀ id, p.identity = some id → ¬ SharesSegment s id

/-- A record in a slot has the earliest last-heard time of those that meet a test, the lower slot on equal times. -/
def EarliestOf (test : Peer → Prop) (s : State) (slot : Nat) (q : Peer) : Prop :=
  s.peers.slots[slot]? = some (some q) ∧ test q ∧
    ∀ (k : Nat) (r : Peer), s.peers.slots[k]? = some (some r) → test r →
      q.lastHeard < r.lastHeard ∨ (q.lastHeard = r.lastHeard ∧ slot ≤ k)

/-- R136, R139: the record that a frame of a sender without one makes. -/
def newRecord (s : State) (f : RxFrame) : Peer where
  address := f.sender.toNat
  identity := none
  freshness := .fresh
  interval := s.cfg.radio.heartbeat * 16000
  provisional := true
  lastHeard := s.clock.ms / 10 * 10
  sequenceSet := [f.seqNo.toNat]
  restarted := f.flags.getLsbD 7
  economyHeard := f.flags.getLsbD 6
  lastState := none
  fault := none
  isolation := none

/-- From `s`, a RUNNING load test is ABORTED in `t` (R107). -/
structure TestAborted (s t : State) : Prop where
  load : t.testLoadOn = false
  test : t.battery.test = .idle ∧ t.battery.durationTimer = none ∧ t.battery.retryTimer = some 0
  interval : t.battery.intervalTimer = if s.cfg.battery.testHours = 0 then none else some 0
  charger : t.battery.charger ≠ .test
  result : t.battery.last =
    { result := .aborted, v0 := some s.battery.v0, v1 := none, i1 := none, r := none, time := s.clock.seconds }
  judged : t.battery.judged = s.battery.judged
  grade : t.battery.grade = s.battery.grade
  hold : t.battery.loadHold = 2

/-! ## What the claims say of the radio line -/

/-- R124, R130, R131, R132: the radio line when the power mode becomes `mode`. A sleeping receiver is powered, with
guard time and jam timer from 0, and its cycle ends; an entry to SURVIVAL fills the allowance and starts the hour
timer, and any other mode stops it; a heartbeat time at or beyond the new limit restarts. -/
def lineAtMode (s : State) (mode : PowerMode) : Radio :=
  let r := s.radio
  let slept := r.rx = .sleep
  let limit := s.cfg.radio.heartbeat * 1000 * (match mode with | .full => 1 | .economy => 4 | .survival => 16)
  if mode = s.battery.mode then r
  else
    { r with
      rx := if slept then .listen else r.rx
      duty := .off
      jamTimer := if slept then 0 else r.jamTimer
      guardTimer := if slept then (if r.carrier then none else some 0) else r.guardTimer
      jammed := if slept ∧ r.carrier = false then false else r.jammed
      allowance := if mode = .survival then s.cfg.radio.allowance else r.allowance
      hourTimer := if mode = .survival then some 0 else none
      heartbeat := r.heartbeat.map fun e => if limit ≤ e then 0 else e }

/-- R124: the receiver after the end of a command that changed the power mode: on and out of its cycle in FULL and
while the transmitter is away from IDLE, and otherwise at the start of a listen window, but for a frame in hand. -/
structure ReceiverAtMode (t u : State) : Prop where
  powered : u.radio.rx = t.radio.rx ∧ u.radio.rx ≠ .sleep
  steady : u.radio.tx ≠ .idle ∨ u.battery.mode = .full → u.radio.duty = .off
  cycle : u.radio.tx = .idle → u.battery.mode ≠ .full → u.radio.rx ≠ .frame → u.radio.duty = .listening 0

/-- A STATE trigger of R132 that the states before and after a command show. -/
def TriggerFell (s t : State) : Prop :=
  t.mech.position ≠ s.mech.position ∨ t.seqState ≠ s.seqState ∨ t.seq.reason ≠ s.seq.reason ∨
    t.seq.hotLine ≠ s.seq.hotLine ∨ t.meas.src.presence ≠ s.meas.src.presence ∨
    t.meas.load.presence ≠ s.meas.load.presence ∨ t.battery.grade ≠ s.battery.grade ∨
    t.battery.mode ≠ s.battery.mode ∨
    (∃ n < 8, ((t.tags.slots[n]?.bind LocalSlot.tag).isSome ≠ (s.tags.slots[n]?.bind LocalSlot.tag).isSome)) ∨
    t.tags.unconfirmed ≠ s.tags.unconfirmed

/-- R132: the number of STATE triggers that the states before and after a command show. A change of grade and mode is
one trigger (R111), each slot filled or emptied is one (R177), and a heartbeat timer that a change of mode finds at or
beyond the new limit expires as one more. -/
def triggersFallen (s t : State) : Nat :=
  let slot (x : State) (n : Nat) : Bool := (x.tags.slots[n]?.bind LocalSlot.tag).isSome
  let factor : Nat := match t.battery.mode with | .full => 1 | .economy => 4 | .survival => 16
  let expires : Prop :=
    t.battery.mode ≠ s.battery.mode ∧ t.cfg.radio.heartbeat * 1000 * factor ≤ s.radio.heartbeat.getD 0 ∧
      s.radio.heartbeat ≠ none
  (if t.mech.position ≠ s.mech.position then 1 else 0) + (if t.seqState ≠ s.seqState then 1 else 0) +
    (if t.seq.reason ≠ s.seq.reason then 1 else 0) + (if t.seq.hotLine ≠ s.seq.hotLine then 1 else 0) +
    (if t.meas.src.presence ≠ s.meas.src.presence then 1 else 0) +
    (if t.meas.load.presence ≠ s.meas.load.presence then 1 else 0) +
    (if t.battery.grade ≠ s.battery.grade ∨ t.battery.mode ≠ s.battery.mode then 1 else 0) +
    (if t.tags.unconfirmed ≠ s.tags.unconfirmed then 1 else 0) + (if expires then 1 else 0) +
    ((List.range 8).filter fun n => slot t n ≠ slot s n).length

/-- What of the radio line the end of a command leaves alone, whatever it offers or starts. -/
structure LineKept (r q : Radio) : Prop where
  counters : q.framesSent = r.framesSent ∧ q.framesAccepted = r.framesAccepted ∧ q.badFrames = r.badFrames ∧
    q.duplicates = r.duplicates ∧ q.framesRefused = r.framesRefused ∧ q.addressConflicts = r.addressConflicts ∧
    q.channelJams = r.channelJams ∧ q.windowsClosed = r.windowsClosed
  window : q.windowSyncs = r.windowSyncs ∧ q.windowBad = r.windowBad ∧ q.link = r.link
  timers : q.heartbeat = r.heartbeat ∧ q.hourTimer = r.hourTimer ∧ q.allowance = r.allowance
  line : q.carrier = r.carrier ∧ q.nextSeq = r.nextSeq ∧ q.onAir = r.onAir ∧ q.frame = r.frame ∧
    q.preamble = r.preamble ∧ q.airTicks = r.airTicks

/-- R118, R124: the radio after the frame in hand has ended: LISTEN, or SLEEP when the listen window ran out. -/
def afterFrame (s : State) : Radio :=
  match s.radio.duty with
  | .ranOut => { s.radio with rx := .sleep, duty := .sleeping 0, guardTimer := none, jamTimer := 0 }
  | .listening e =>
    if s.cfg.radio.listen ≤ e then
      { s.radio with rx := .sleep, duty := .sleeping 0, guardTimer := none, jamTimer := 0 }
    else { s.radio with rx := .listen }
  | .off | .sleeping _ => { s.radio with rx := .listen }

/-- A frame is being received: the running machine in FRAME with TX key off. -/
structure Receiving (s : State) : Prop where
  running : s.startUp = none
  frame : s.radio.rx = .frame
  keyOff : s.radio.txKey = false

/-- The frame passes the CRC and the two address checks (R117, R119, R120). -/
structure FramePasses (s : State) (kind : Nat) (f : RxFrame) : Prop where
  length : f.payload.length ≤ 64
  crc : crc16 ([byte kind] ++ be16 f.sender.toNat ++ [f.seqNo, byte f.payload.length, f.flags] ++ f.payload) = f.crc
  sender : within 1 4000 f.sender.toNat
  other : f.sender.toNat ≠ s.cfg.identity.address

/-- A frame of a kind other than CREW ASK, from the station of record `p` in a slot, is accepted without a restart heard
and without ending a link window (R120, R121, R123, R138). -/
structure FrameAccepted (s : State) (kind : Nat) (f : RxFrame) (slot : Nat) (p : Peer) : Prop where
  receiving : Receiving s
  passes : FramePasses s kind f
  window : s.radio.windowSyncs < 32
  record : s.peers.slotOf f.sender.toNat = some slot ∧ s.peers.slots[slot]? = some (some p)
  fresh : ∀ q ∈ s.peers.held, q.address = f.sender.toNat → f.seqNo.toNat ∉ q.sequenceSet
  noRestart : f.flags.getLsbD 7 = true → p.restarted = true

/-- The radio after an accepted frame that ends no link window. -/
def radioAccepted (s : State) : Radio :=
  { afterFrame s with framesAccepted := min (s.radio.framesAccepted + 1) 65535 }

/-- R138, R176: from `s`, a restart heard from a station is answered on the radio line of `t` by a RECALL of all the
tags held of it, outside DEFAULTED operation and with room; with none held nothing is offered. -/
def RecallAnswers (s t : State) (holder : Nat) : Prop :=
  let items := s.tags.itemsOf holder
  (items = [] → t.radio = radioAccepted s) ∧
    (items ≠ [] → s.loader.defaulted = false → s.radio.outbox.length < 8 →
      t.radio =
        { radioAccepted s with
          outbox :=
            insertNotice
              { kind := .recall
                payload := be16 holder ++ [byte items.length] ++ (items.map TagItem.bytes).flatten
                made := 0, total := 1, seqNo := none, replaced := false, attempted := false }
              s.radio.outbox })

/-- R121, R136: the record as an accepted frame refreshes it. -/
def refreshed (s : State) (f : RxFrame) (p : Peer) : Peer :=
  { p with
    lastHeard := s.clock.ms / 10 * 10, freshness := .fresh, sequenceSet := (f.seqNo.toNat :: p.sequenceSet).take 4
    restarted := f.flags.getLsbD 7, economyHeard := f.flags.getLsbD 6 }

/-- R164: none of the tag items of five bytes from a place of a payload holds scope code 3 or a segment above 250, and
no two hold one tag number. -/
def ItemsInRange (payload : List Byte) (place count : Nat) : Prop :=
  (∀ k < count, byteAt payload (place + 5 * k) / 4 % 4 ≠ 3 ∧ byteAt payload (place + 5 * k + 2) ≤ 250) ∧
    ∀ k < count, ∀ j < k, byteAt payload (place + 5 * j) / 32 ≠ byteAt payload (place + 5 * k) / 32

/-- A list holds the tag items from a place of a payload, in their order. -/
def ItemsFrom (payload : List Byte) (place count : Nat) (items : List TagItem) : Prop :=
  items.length = count ∧ ∀ k < count, items[k]? = some (itemAt payload (place + 5 * k))

/-! ## What the claims say of crew asks (9.5) -/

/-- The ask reaches step 3 of R166: accepted, addressed to this station, and not on the dedupe list. -/
structure AskTaken (s : State) (f : RxFrame) : Prop where
  receiving : Receiving s
  passes : FramePasses s 0x86 f
  window : s.radio.windowSyncs < 32
  target : 2 ≤ f.payload.length → u16At f.payload 0 = s.cfg.identity.address
  fresh : ∀ a ∈ s.tags.dedupe, ¬ (a.handset = f.sender.toNat ∧ a.seqNo = f.seqNo.toNat)

/-- The seven-byte ask of a roster member, with its effective grade (R166). -/
structure AskOfCrew (s : State) (kind : AskKind) (a : AskFrame) (grade : Nat) : Prop where
  taken : AskTaken s (askRx kind a)
  requested : within 1 4 a.grade.toNat
  member : ∃ e, s.cfg.crew.roster.find? (fun e => e.crewId = a.crewId.toNat) = some e ∧
    grade = min e.grade a.grade.toNat

/-- R173: a TAG notice stands in the outbox of `t`: PLACED or REMOVED, with the item of a local tag of a slot, to be
sent once. -/
def TagOffered (s t : State) (removed : Bool) (slot : Nat) (tag : LocalTag) : Prop :=
  ∃ n ∈ t.radio.outbox, n.kind = .tag ∧ n.made = 0 ∧ n.total = 1 ∧ n.seqNo = none ∧
    n.payload =
      [byte (if removed then 128 else 0),
        byte (slot * 32 + (if tag.kind = .holdOpen then 16 else 0) + tag.scope.code * 4 + (tag.grade - 1)),
        byte tag.generation,
        byte
          (match tag.scope with
           | .station => 0
           | .source => s.cfg.identity.sourceSegment
           | .load => s.cfg.identity.loadSegment)] ++ be16 tag.crewId

/-- R166: the ask is answered in `t` by the eight bytes of a CREW ANSWER: counted, first on the dedupe list, and,
outside DEFAULTED operation and with room for two notices, in the outbox. -/
structure Answered (s t : State) (f : RxFrame) (kindCode result selector detail last : Nat) : Prop where
  counted : t.tags.asksTaken = min (s.tags.asksTaken + 1) 65535
  dedupe : ∃ bytes,
    bytes = be16 f.sender.toNat ++
      [f.seqNo, byte (kindCode * 16), byte result, byte selector, byte detail, byte last] ∧
    t.tags.dedupe = (⟨f.sender.toNat, f.seqNo.toNat, bytes⟩ :: s.tags.dedupe).take 4 ∧
    (s.loader.defaulted = false → s.radio.outbox.length ≤ 6 →
      ∃ n ∈ t.radio.outbox, n.kind = .crewAnswer ∧ n.payload = bytes ∧ n.made = 0 ∧ n.total = 1 ∧ n.seqNo = none)

/-- R67: the phase Q of the last block published: the newest that waits for its evaluation, or else the last
evaluated. -/
def lastPublished (s : State) : Phases :=
  match s.mail.overcurrent.getLast? with
  | some p => ⟨p.q.a, p.q.b, p.q.c⟩
  | none => ⟨s.oc.latestQ.a, s.oc.latestQ.b, s.oc.latestQ.c⟩

/-- A commanded open from a closed state of a switch at rest has put a trip in flight (R56, R67). -/
structure OpenStarted (s t : State) (causes : TripCauses) : Prop where
  phase : t.seq.phase = .tripping ∧ t.seq.causes = causes ∧ t.seq.hotMark = s.seq.hotLine
  coil : t.mech.tripCoil = true ∧ t.mech.operation = .trip ∧ t.mech.operationTimer = some 0 ∧
    t.mech.tripStartQ = some (lastPublished s)
  unit : t.oc.unit = .demanded
  ready : t.energy.tripReady = false ∧ t.energy.tripFired = 2

/-- R43: the event that a Feeder Coordinator open finds open is kept; where none is open it starts one, with the next
event number (1 after 65,535), the Station Clock seconds, the grade in effect and no shots. -/
structure EventStarted (s t : State) : Prop where
  kept : ∀ e, s.seq.event = some e → t.seq.event = some e ∧ t.seq.eventNumber = s.seq.eventNumber
  started : s.seq.event = none →
    t.seq.eventNumber = (if s.seq.eventNumber = 65535 then 1 else s.seq.eventNumber + 1) ∧
      t.seq.event =
        some
          { number := t.seq.eventNumber, start := s.clock.seconds, grade := s.battery.grade, shots := 0 } ∧
      t.oc.fastBlocked = false ∧ t.oc.eventSummary = EventSummary.empty

/-- From `s`, where a trip or a close is in flight, a Feeder Coordinator open has joined it in `t` (R43, R56). -/
structure OpenJoined (s t : State) (sectionalize isolate : Bool) : Prop where
  event : EventStarted s t
  phase : t.seq.phase = s.seq.phase ∧ t.mech.operation = s.mech.operation
  causes : s.seq.phase = .tripping →
    t.seq.causes =
      { s.seq.causes with
        sectionalize := s.seq.causes.sectionalize || sectionalize, isolate := s.seq.causes.isolate || isolate } ∧
      t.seq.heldCauses = s.seq.heldCauses
  held : s.seq.phase = .reclosing →
    t.seq.heldCauses =
      { s.seq.heldCauses with
        sectionalize := s.seq.heldCauses.sectionalize || sectionalize
        isolate := s.seq.heldCauses.isolate || isolate } ∧
      t.seq.causes = s.seq.causes ∧ t.mech.heldTrip = true

/-- A trip is in flight in TRIPPING, or a close in RECLOSING. -/
def InOperation (s : State) : Prop :=
  (s.seq.phase = .tripping ∧ s.mech.operation = .trip) ∨ (s.seq.phase = .reclosing ∧ s.mech.operation = .close)

/-- The switch is closed and at rest in a closed sequence state, from which an open puts a trip in flight. -/
structure CanOpen (s : State) : Prop where
  phase : s.seq.phase.isClosed = true
  position : s.mech.position = .closed
  atRest : s.mech.operation = .none

/-- An open that reaches the Sequence Controller (R56): from the panel, its button pressed until now unseen and its
level held; from the port, which is idle; or from a crew member of the operate grade. -/
def OpenCommand (s : State) (c : Instr) : Prop :=
  (∃ held, c = .openButton held ∧ s.tags.openPressed = false ∧
      HasHeld s.tags.openInput held 50 s.tags.openPressed) ∨
    (c = .trip 0#8 ∧ s.port.transaction = .idle) ∨
    ∃ a grade, c = .openAsk a ∧ AskOfCrew s .openAsk a grade ∧ s.cfg.crew.operateGrade ≤ grade

/-- A close that reaches the Sequence Controller (R57), likewise. -/
def CloseCommand (s : State) (c : Instr) : Prop :=
  (∃ held, c = .closeButton held ∧ s.tags.closePressed = false ∧
      HasHeld s.tags.closeInput held 50 s.tags.closePressed) ∨
    (c = .close 0#8 ∧ s.port.transaction = .idle) ∨
    ∃ a grade, c = .closeAsk a ∧ AskOfCrew s .closeAsk a grade ∧ s.cfg.crew.operateGrade ≤ grade

/-- R123: a link window may close in `t`, for the radio `r` that the frame has left. -/
def windowEnds (s t : State) (r : Radio) : Prop :=
  (r.windowSyncs < 32 → t.radio = r ∧ t.alarms = s.alarms) ∧
    (32 ≤ r.windowSyncs →
      t.radio =
          { r with
            windowSyncs := 0, windowBad := 0, windowsClosed := (r.windowsClosed + 1) % 256
            link := if r.windowBad ≤ 2 then .good else if r.windowBad ≤ 8 then .marginal else .poor } ∧
        t.alarms.enables = s.alarms.enables ∧
        t.alarms.flags =
          (if 9 ≤ r.windowBad ∧ r.link ≠ .poor then s.alarms.flags ||| 256#12 else s.alarms.flags))

/-- The peer of a payload stands downstream of this station and trips on its own elements (R145). -/
def DownstreamProtective (s : State) (payload : List Byte) : Prop :=
  s.cfg.identity.role ≠ .tie ∧ (payloadIdentity payload).role ≠ .tie ∧ s.cfg.identity.loadSegment ≠ 0 ∧
    byteAt payload 1 = s.cfg.identity.loadSegment ∧ bitSet (byteAt payload 0) 5 = true

/-- An event is open for the Overcurrent Unit, one whose pickup report waits among them (R34, log entry 48). -/
def EventOpen (s : State) : Prop := s.seq.event ≠ none ∨ .pickup true ∈ s.mail.reports

/-- R34, R37: the table of a fast block. Under hot-line forced fast-blocked alone is set (log entry 35 for HOLD). -/
structure FastBlocked (s t : State) : Prop where
  already : s.oc.fastBlocked = true → t.oc = s.oc
  waiting : s.oc.fastBlocked = false → s.oc.unit = .quiet ∨ s.oc.unit = .watching →
    (EventOpen s → t.oc = { s.oc with fastBlocked := true }) ∧ (¬ EventOpen s → t.oc = s.oc)
  forced : s.oc.fastBlocked = false → s.oc.unit = .running ∨ s.oc.unit = .hold ∨ s.oc.unit = .demanded →
    s.oc.active.map Active.hotForced = some true → t.oc = { s.oc with fastBlocked := true }
  running : s.oc.fastBlocked = false → s.oc.unit = .running ∨ s.oc.unit = .demanded →
    s.oc.active.map Active.hotForced ≠ some true →
    t.oc = { s.oc with fastBlocked := true, fast := Quad.zero, fastArmed := false }
  hold : s.oc.fastBlocked = false → s.oc.unit = .hold → s.oc.active.map Active.hotForced ≠ some true →
    t.oc = { s.oc with unit := .running, hold := 0, fastBlocked := true, fast := Quad.zero, fastArmed := false }

/-! ## What the claims say of the port (R185, R187) -/

/-- The transaction in `t` answers with a status byte and data, and nothing else of the machine has moved. -/
def Responded (s t : State) (response : List Byte) : Prop :=
  t = { s with port := { s.port with transaction := .taken response none false } }

/-- The command was answered OK with an answer and a detail byte. -/
def AnsweredAtPort (t : State) (answer detail : Nat) : Prop :=
  t.port.transaction = .taken [0#8, byte answer, byte detail] none false

end Sys2Proof.Machine
end

