-- ==== Sys2Proof/Certificates/Slice0/Obligations.lean ====
section
/-! DEFINITION. The statements about the model, one `Prop` each, in the terms of Safety.lean. Where a statement rests
on a choice of the model, its docstring names the log entry (notes/assumptions). -/

open Sys2Proof Sys2Proof.Machine

/-- For every state whose queue begins with a command c, step answers what exec answers for c on the state with the
rest of the queue. (95_what_each_step_holds.md) -/
def Obligations.StepTakesFrontCommand : Prop :=
  ∀ (s : State) (c : Instr) (rest : List Instr), s.pending = c :: rest → step s = exec c { s with pending := rest }

/-- With an empty queue and start-up over, a step adds one twelfth of a millisecond to the time base, to a running gap
timer, to every filter under way on the contact, supply and panel inputs, to the time in SENDING and to the sub-second
count, which carries into the seconds counter modulo 2^32; short of a whole 10 ms it changes nothing else. In start-up
the seconds counter and its sub-second count alone count so. At each whole 10 ms the operation, disagree, aux, absorb,
interval, retry, duration, pending, count reset, heartbeat, hour and guard timers that run advance by 10, as do the
tie delay timer until the delay is served, the jam timer while a carrier is looked at, the timer of BACKOFF, KEYUP,
TAIL and SPACING, and the listen or sleep window; the dead-time, recharge-wait and reclaim timers fall by 10 to no
less than 0; and the settle timer advances unless a test runs or the load hold count is above 0. That time passes on
an empty queue, in steps of 1/12 ms, is the model's choice (log entry 1); R194 gives the time base, the seconds
counter and the 10 ms resolution. (R194, R4, R65, R68, R84, R109, R124, R128, R130, R132, R155, R161) -/
def Obligations.IdleStepsCountTime : Prop :=
  (∀ s : State, s.pending = [] → s.startUp = none → ClockInv s.clock →
     ∃ t, step s = .next t ∧ ClockInv t.clock ∧
       t.clock.ms * 12 + t.clock.fraction = s.clock.ms * 12 + s.clock.fraction + 1 ∧
       (t.clock.seconds * 1000 + t.clock.subSecond) * 12 + t.clock.subFraction =
         ((s.clock.seconds * 1000 + s.clock.subSecond) * 12 + s.clock.subFraction + 1) % 51539607552000 ∧
       (¬ (s.clock.fraction = 11 ∧ (s.clock.ms + 1) % 10 = 0) →
         Only [.clock, .meas, .radio, .mech, .energy, .tags] s t ∧
         t.mech =
           { s.mech with
             openInput := tickedInput s.mech.openInput, closedInput := tickedInput s.mech.closedInput } ∧
         t.energy = { s.energy with supplyInput := tickedInput s.energy.supplyInput } ∧
         t.radio =
           { s.radio with
             airTicks := if s.radio.tx = .sending then s.radio.airTicks + 1 else s.radio.airTicks }) ∧
       Only [.clock, .meas, .radio, .mech, .energy, .battery, .seq, .coord, .tags] s t ∧
       t.meas = { s.meas with gap := s.meas.gap.map (· + 1) } ∧
       t.tags =
         { s.tags with
           keyInput := tickedInput s.tags.keyInput, openInput := tickedInput s.tags.openInput
           closeInput := tickedInput s.tags.closeInput, confirmInput := tickedInput s.tags.confirmInput }) ∧
  (∀ s : State, s.pending = [] → s.startUp ≠ none → ClockInv s.clock →
     ∃ t, step s = .next t ∧ Only [.clock] s t ∧ t.clock.ms = s.clock.ms ∧ t.clock.fraction = s.clock.fraction ∧
       (t.clock.seconds * 1000 + t.clock.subSecond) * 12 + t.clock.subFraction =
         ((s.clock.seconds * 1000 + s.clock.subSecond) * 12 + s.clock.subFraction + 1) % 51539607552000) ∧
  (∀ s : State, s.pending = [] → s.startUp = none → s.clock.fraction = 11 → (s.clock.ms + 1) % 10 = 0 →
     ∃ t, step s = .next t ∧
       t.mech =
         { s.mech with
           openInput := tickedInput s.mech.openInput, closedInput := tickedInput s.mech.closedInput
           operationTimer := s.mech.operationTimer.map (· + 10), disagreeTimer := s.mech.disagreeTimer.map (· + 10) } ∧
       t.energy =
         { s.energy with
           supplyInput := tickedInput s.energy.supplyInput, auxTimer := s.energy.auxTimer.map (· + 10) } ∧
       t.seq =
         { s.seq with
           deadTimer := s.seq.deadTimer.map (· - 10), waitTimer := s.seq.waitTimer.map (· - 10)
           reclaimTimer := s.seq.reclaimTimer.map (· - 10) } ∧
       t.battery =
         { s.battery with
           absorbTimer := s.battery.absorbTimer.map (· + 10), intervalTimer := s.battery.intervalTimer.map (· + 10)
           retryTimer := s.battery.retryTimer.map (· + 10), durationTimer := s.battery.durationTimer.map (· + 10)
           pendingTimer := s.battery.pendingTimer.map (· + 10)
           settleTimer :=
             if s.battery.test = .running ∨ 0 < s.battery.loadHold then s.battery.settleTimer
             else s.battery.settleTimer.map (· + 10) } ∧
       t.coord =
         { s.coord with
           countReset := s.coord.countReset.map (· + 10)
           tie := s.coord.tie.map fun x => { x with elapsed := if x.served then x.elapsed else x.elapsed + 10 } } ∧
       t.radio =
         { s.radio with
           airTicks := if s.radio.tx = .sending then s.radio.airTicks + 1 else s.radio.airTicks
           timer :=
             if s.radio.tx = .backoff ∨ s.radio.tx = .keyup ∨ s.radio.tx = .tail ∨ s.radio.tx = .spacing then
               s.radio.timer + 10
             else s.radio.timer
           guardTimer := s.radio.guardTimer.map (· + 10)
           jamTimer :=
             if s.radio.rx ≠ .sleep ∧ s.txKeyOn = false ∧ s.radio.carrier = true then s.radio.jamTimer + 10
             else s.radio.jamTimer
           duty :=
             (match s.radio.duty with
              | .off => .off
              | .listening e => .listening (e + 10)
              | .ranOut => .ranOut
              | .sleeping e => .sleeping (e + 10))
           hourTimer := s.radio.hourTimer.map (· + 10), heartbeat := s.radio.heartbeat.map (· + 10) })

/-- Power-on, in any state, leaves start-up of kind power-on with every output off, the tables and the event empty,
and the counters of measurement, energy, radio line, Peer Table, tags and port, the event number, the log, the clock
and the battery results at their power-on values. A RESET pin reset, and the release of chip select that ends a
transaction holding an accepted RESTART, leave start-up with every output off and the tables empty, and keep the
seconds counter, the counters, trips, closes, wear, event number, charge, battery results, records and generation
counters. A reset in an unfinished power-on start-up leaves the start-up kind power-on: that clause is the model's
choice (log entry 16). (R189, R188, R193, R15, R75, R94, R113, R133, R158, R178, R181, R184) -/
def Obligations.ResetsClearOrKeep : Prop :=
  (∀ s : State, ∃ t, exec .powerOn s = .next t ∧ t.pending = s.pending ∧ t.startUp = some .powerOn ∧ Released t ∧
     t.seq.eventNumber = 0 ∧ t.clock.seconds = 0 ∧ t.clock.subSecond = 0 ∧ t.clock.subFraction = 0 ∧
     t.log.records = [] ∧ t.log.written = 0 ∧
     t.log.overwrites = 0 ∧
     t.meas.setsRejected = 0 ∧ t.meas.blocksDiscarded = 0 ∧ t.meas.losses = 0 ∧ t.energy.expiries = 0 ∧
     t.battery.uncalibrated = true ∧ t.battery.soc = 5000 ∧ t.battery.last.result = .none ∧ t.battery.judged = .none ∧
     t.tags.slots = List.replicate 8 ⟨none, 0⟩ ∧ t.port.errors = 0 ∧
     t.radio.framesSent = 0 ∧ t.radio.framesAccepted = 0 ∧ t.radio.badFrames = 0 ∧ t.radio.duplicates = 0 ∧
     t.radio.framesRefused = 0 ∧ t.radio.addressConflicts = 0 ∧ t.radio.outboxOverflow = 0 ∧
     t.radio.channelJams = 0 ∧ t.radio.windowsClosed = 0 ∧
     t.peers.tableFull = 0 ∧ t.peers.evictions = 0 ∧ t.peers.payloadsRefused = 0 ∧
     t.tags.asksTaken = 0 ∧ t.tags.duplicateAsks = 0 ∧ t.tags.payloadsRefused = 0 ∧ t.tags.recallsIgnored = 0 ∧
     t.tags.recallConflicts = 0) ∧
  (∀ s : State,
     (∃ t, exec .resetPin s = .next t ∧ KeptByReset s t ∧ Released t ∧
       t.startUp = some (if s.startUp = some .powerOn then .powerOn else .resetPin)) ∧
     (∀ (clocked : Nat) (response : List Byte), s.port.transaction = .taken response none true →
       ∃ t, exec (.chipSelectRelease clocked) s = .next t ∧ KeptByReset s t ∧ Released t ∧
         t.startUp = some (if s.startUp = some .powerOn then .powerOn else .restart) ∧ t.port.transaction = .idle))

/-- For every image and every pin levels read in START with no operation in flight, start-up ends with the time base
at 0, the seconds counter with its sub-second count kept and the gap timer at 0, no coil changed, the contact, aux
supply, key and button levels and the panel grade taken from the pins with no filter under way, the power mode of
R111, the position OPEN or CLOSED from the contacts or JAMMED when they disagree, the operation counters and wear from
the presets at a power-on and kept otherwise, the sequence in READY, in STANDBY at an open TIE, or in LOCKOUT with
reason START or MECHANISM, and the causes LOCKOUT, MECHANISM FAULT, CONFIG DEFAULTED and WEAR LIMIT (some wear at or
above a limit above 0) pending exactly when they apply. A key that is ON fills slot 0 with a HOT-LINE tag of scope
STATION, crew ID 0 and the panel grade, with the next generation and the seconds counter, and offers no notice; OFF
leaves the slots. Hot-line mode is in force exactly with the key ON, and READY gives the READY offer, with the unit
WATCHING; elsewhere the unit is QUIET without an offer. At a power-on Cq is half of Cfull and SOC 5,000; otherwise a
kept Cq above the new Cfull becomes Cfull, with SOC worked again, and any other Cq stays with its SOC (that SOC is
worked again only for a bounded Cq is log entry 20). The receiver enters LISTEN, with the duty cycle of the power mode
and the guard time from 0 unless there is a carrier; the heartbeat timer starts from 0 outside DEFAULTED operation; in
SURVIVAL alone the allowance is full and the hour timer starts. Hot-line mode, the unit and the receiver are claimed
for the tables, the unit and the line as every reset leaves them (StartingInv, an invariant of its own). (R42, R63,
R77, R82, R84, R111, R113, R134, R161, R165, R193, R194) -/
def Obligations.StartTakesStateFromContacts : Prop :=
  ∀ (s : State) (kind : ResetKind) (bytes : List Byte) (pins : StartPins), s.startUp = some kind →
    s.mech.operation = .none →
    ∃ t, exec (.imageRead bytes pins) s = .next t ∧ t.startUp = none ∧ t.pending = s.pending ∧
      t.clock.ms = 0 ∧ t.clock.fraction = 0 ∧ t.clock.seconds = s.clock.seconds ∧
      t.clock.subSecond = s.clock.subSecond ∧ t.clock.subFraction = s.clock.subFraction ∧ t.meas.gap = some 0 ∧
      t.mech.operation = .none ∧ t.mech.tripCoil = s.mech.tripCoil ∧ t.mech.closeCoil = s.mech.closeCoil ∧
      t.mech.openInput = ⟨pins.openMade, none⟩ ∧ t.mech.closedInput = ⟨pins.closedMade, none⟩ ∧
      t.mech.contactOpen = pins.openMade ∧ t.mech.contactClosed = pins.closedMade ∧
      t.energy.supplyInput = ⟨pins.auxPresent, none⟩ ∧
      t.energy.supply = pins.auxPresent ∧ t.battery.mode = powerModeTable pins.auxPresent s.battery.grade ∧
      t.tags.keyOn = pins.keyOn ∧ t.tags.keyInput = ⟨pins.keyOn, none⟩ ∧ t.tags.panelGrade = pins.grade ∧
      t.tags.openPressed = pins.openPressed ∧ t.tags.openInput = ⟨pins.openPressed, none⟩ ∧
      t.tags.closePressed = pins.closePressed ∧ t.tags.closeInput = ⟨pins.closePressed, none⟩ ∧
      t.tags.confirmPressed = pins.confirmPressed ∧ t.tags.confirmInput = ⟨pins.confirmPressed, none⟩ ∧
      t.mech.position =
        (if pins.openMade = pins.closedMade then .jammed else if pins.closedMade then .closed else .opened) ∧
      t.mech.lastClosed = (pins.closedMade && !pins.openMade) ∧
      (kind = .powerOn →
        t.mech.trips = t.loader.settings.switch.tripsPreset ∧ t.mech.closes = t.loader.settings.switch.closesPreset ∧
          t.mech.wear = t.loader.settings.switch.wearPreset) ∧
      (kind ≠ .powerOn →
        t.mech.trips = s.mech.trips ∧ t.mech.closes = s.mech.closes ∧ t.mech.wear = s.mech.wear) ∧
      t.seq.phase =
        (if t.mech.position = .closed then .ready
         else if t.mech.position = .opened ∧ t.loader.settings.identity.role = .tie then .standby
         else .lockout) ∧
      (t.seq.phase = .lockout →
        t.seq.reason = some (if t.mech.position = .opened then .start else .mechanism)) ∧
      t.alarms.isPending .lockout = decide (t.seq.phase = .lockout) ∧
      t.alarms.isPending .mechanismFault = decide (t.mech.position = .jammed) ∧
      t.alarms.isPending .configDefaulted = t.loader.defaulted ∧
      (t.alarms.isPending .wearLimit = true ↔
        let limit := t.loader.settings.switch.wearLimit
        0 < limit ∧ (limit ≤ t.mech.wear.a ∨ limit ≤ t.mech.wear.b ∨ limit ≤ t.mech.wear.c)) ∧
      (
        let generation := ((s.tags.slot 0).counter + 1) % 256
        (pins.keyOn = true →
          t.tags.slots =
            s.tags.slots.set 0
              ⟨some
                  { kind := .hotLine, scope := .station, crewId := 0
                    grade := (match pins.grade with | .one => 1 | .two => 2 | .three => 3 | .four => 4)
                    generation, placed := s.clock.seconds, blocked := 0, recalled := false },
                generation⟩) ∧
        (pins.keyOn = false → t.tags.slots = s.tags.slots) ∧ t.tags.feeder = s.tags.feeder ∧
          t.radio.outbox = s.radio.outbox) ∧
      (TablesInv s → StartingInv s → t.seq.hotLine = pins.keyOn) ∧
      (t.seq.phase = .ready → t.seq.shot = 1 ∧ t.oc.offer = some (offerNow t 1 true)) ∧
      (StartingInv s →
        (t.seq.phase = .ready → t.oc.unit = .watching) ∧
        (t.seq.phase ≠ .ready → t.oc.unit = .quiet ∧ t.oc.offer = none)) ∧
      t.battery.uncalibrated = s.battery.uncalibrated ∧ t.battery.last = s.battery.last ∧
      t.battery.judged = s.battery.judged ∧ t.battery.grade = s.battery.grade ∧
      (
        let full := t.cfg.battery.capacity * 3600 * t.cfg.identity.frequency
        (kind = .powerOn → t.battery.cq = full / 2 ∧ t.battery.soc = 5000) ∧
        (kind ≠ .powerOn →
          (full < s.battery.cq → t.battery.cq = full ∧ t.battery.soc = 10000) ∧
          (s.battery.cq ≤ full → t.battery.cq = s.battery.cq ∧ t.battery.soc = s.battery.soc))) ∧
      t.radio.heartbeat = (if t.loader.defaulted then none else some 0) ∧ t.radio.carrier = pins.carrier ∧
      t.radio.hourTimer = (if t.battery.mode = .survival then some 0 else none) ∧
      (t.battery.mode = .survival → t.radio.allowance = t.cfg.radio.allowance) ∧
      (StartingInv s →
        t.radio.rx = .listen ∧ t.radio.jamTimer = 0 ∧
          t.radio.guardTimer = (if pins.carrier then none else some 0) ∧
          t.radio.duty = (if t.battery.mode = .full then .off else .listening 0))

/-- For every 415 bytes read in start-up, operation is DEFAULTED exactly when the format code is not 0x5D41, the
length field is not 415, or the CRC of the first 413 bytes is not the last two. In DEFAULTED operation every setting
is the built-in default (role HEAD, address 1, empty roster), the clamp count and version are 0 and all twelve causes
are enabled; otherwise the version is that of the image, the enables are the low twelve bits of its enables field
(that bits 15 to 12 are ignored and not clamped is log entry 34) and the clamp count is at most 255. The derived
settings are always derived from the settings in use. (R189, R190, R191, 11_configuration_image_and_start_up.md) -/
def Obligations.ImageDecidesOperation : Prop :=
  ∀ (s : State) (kind : ResetKind) (bytes : List Byte) (pins : StartPins), s.startUp = some kind → bytes.length = 415 →
    ∃ t, exec (.imageRead bytes pins) s = .next t ∧
      t.loader.defaulted =
        !(decide (u16At bytes 0 = 0x5D41) && decide (u16At bytes 2 = 415) &&
          decide ((crc16 (bytes.take 413)).toNat = u16At bytes 413)) ∧
      (t.loader.defaulted = true →
        t.loader.settings = defaultSettings ∧ t.loader.clampCount = 0 ∧ t.loader.version = 0 ∧
          t.alarms.enables = 0xFFF#12 ∧ t.loader.settings.identity.role = .head ∧
          t.loader.settings.identity.address = 1 ∧ t.loader.settings.crew.roster = []) ∧
      (t.loader.defaulted = false →
        t.loader.version = u16At bytes 4 ∧ t.loader.clampCount ≤ 255 ∧
          t.alarms.enables = BitVec.ofNat 12 (u16At bytes 411)) ∧
      t.loader.derived = deriveSettings t.loader.settings

/-- For every list of bytes, the settings that loading it gives lie within the ranges of the settings tables, in every
group (identity, measurement, protection with both curves, sequence, switch, energy, battery, radio, coordination,
crew with its roster), with the cross-checks between settings made. What the model takes for bytes beyond the end of a
short memory is log entry 22. (R190, R191, R10, R18, R19, R95, R112, R116, 3.13, 4.9, 8.11, 9.11) -/
def Obligations.ImageSettingsInRange : Prop :=
  ∀ bytes : List Byte, SettingsInRange (loadImage bytes).settings

/-- In start-up every command that is not a reset, the image read, the release of chip select or a port request leaves
the state as it is, and every port request of an idle port is answered with the one status byte NOT READY and changes
nothing else. That the first clause covers every other command, the timer expiries, the frames and the works on hand
among them, is the model's choice (log entry 2), wider than the list of R189. (R189, R185) -/
def Obligations.StartUpTakesNoCommand : Prop :=
  ∀ (s : State) (c : Instr), s.startUp ≠ none →
    ((c.isPortRequest = false ∧ c.takenInStartUp = false → exec c s = .next s) ∧
      (c.isPortRequest = true ∧ s.port.transaction = .idle →
        exec c s = .next { s with port := { s.port with transaction := .taken [4#8] none false } }))

/-- A transfer whose marker is not 101, whose length is not 11 or 21 as its AUX bit says, or whose AUX bit is set at a
count other than 15 changes only the sets rejected counter, by 1 to at most 65,535. Outside LOST, a well-formed set
with a count that does not follow the last one becomes the current set, restarts the gap timer and takes the last
count. It discards a part-filled block: sums, clip marks and recovery count cleared, one more in the run of discards
and in blocks discarded, formation in SEEKING. With nothing held only formation returns to SEEKING. A count of 0 then
begins a block at once. At the fourth discard in a row measurement is LOST as at the gap limit (with no load test to
be aborted), and the count reset timer stops. That an aux group of an order-breaking set with another count than 0 is
not captured, and that the set of the fourth discard is dropped, is log entry 24; that the count reset timer stops at
the loss itself is log entry 26. (R1, R2, R3, R4, R5, R12, R13, R15, R152) -/
def Obligations.ArrivalsOutOfOrderAreCounted : Prop :=
  (∀ (s : State) (bytes : List Byte), s.startUp = none →
     ¬ (bits (byteAt bytes 0) 5 3 = 5 ∧ bytes.length = (if bitSet (byteAt bytes 0) 4 then 21 else 11) ∧
         (bitSet (byteAt bytes 0) 4 = true → bits (byteAt bytes 0) 0 4 = 15)) →
     exec (.sampleSet bytes) s =
       .next (finish false s { s with meas := { s.meas with setsRejected := min (s.meas.setsRejected + 1) 65535 } })) ∧
  (∀ (s : State) (x : SampleSet) (last : Nat), s.startUp = none → x.Sendable → s.meas.state ≠ .lost →
     s.meas.lastCount = some last → x.count ≠ (last + 1) % 16 →
     let arrived : Meas := { s.meas with current := some x, gap := some 0, lastCount := some x.count }
     let discarded := min (s.meas.blocksDiscarded + 1) 65535
     (s.meas.filling = true → 0 < s.meas.position → s.meas.discards < 3 →
       (x.count ≠ 0 →
         exec (.sampleSet (sampleBytes x)) s =
           .next (finish false s
             { s with
               meas :=
                 { arrived with
                   filling := false, position := 0, sums := Sums.zero, clips := Quad.none, recovery := 0
                   discards := s.meas.discards + 1, blocksDiscarded := discarded } })) ∧
       (x.count = 0 →
         exec (.sampleSet (sampleBytes x)) s =
           .next (finish false s
             { s with
               meas :=
                 { arrived with
                   filling := true, position := 1, sums := sumsWith Sums.zero x, clips := clipsWith Quad.none x
                   recovery := 0, discards := s.meas.discards + 1, blocksDiscarded := discarded } }))) ∧
     (s.meas.position = 0 → s.meas.discards < 4 →
       (x.count ≠ 0 →
         exec (.sampleSet (sampleBytes x)) s =
           .next (finish false s { s with meas := { arrived with filling := false } })) ∧
       (x.count = 0 →
         exec (.sampleSet (sampleBytes x)) s =
           .next (finish false s
             { s with
               meas :=
                 { arrived with
                   filling := true, position := 1, sums := sumsWith s.meas.sums x
                   clips := clipsWith s.meas.clips x } }))) ∧
     (s.meas.filling = true → 0 < s.meas.position → 3 ≤ s.meas.discards →
       (s.battery.test ≠ .running ∨ s.meas.src.presence ≠ .live) →
       ∃ t, exec (.sampleSet (sampleBytes x)) s = .next (finish false s t) ∧ Only [.meas, .alarms, .coord] s t ∧
         t.alarms = { s.alarms with flags := s.alarms.flags ||| 2#12 } ∧
         t.coord.countReset = none ∧ t.coord.pendingLoss = s.coord.pendingLoss ∧
         t.meas =
           { arrived with
             state := .lost, losses := min (s.meas.losses + 1) 65535, filling := false, position := 0
             sums := Sums.zero, clips := Quad.none, recovery := 0, lastCount := none, gap := none, discards := 0
             src := ⟨.unknown, 0, 0⟩, load := ⟨.unknown, 0, 0⟩, blocksDiscarded := discarded }))

/-- For every sample set that the front end can send (count 0..15, signed 16-bit samples, aux group only at count 15),
the bytes written out from the layout table of 1.1 (marker 101, AUX, count, then each value high byte first) are
parsed to that set. (R1, 1.1) -/
def Obligations.SampleSetLayoutReadsBack : Prop :=
  ∀ x : SampleSet, x.Sendable → parseSampleSet (sampleBytes x) = some x

/-- An in-order set (none before it, or its count one more modulo 16) taken with fewer than 31 sets in the block
becomes the current set, restarts the gap timer, begins recovery from LOST, and is taken for its aux group when it
carries one. With a block filling, or with count 0, it adds the squares of the three currents, of the residual ia + ib
+ ic clipped to 16 bits, and of both voltages to the six sums, sets the clip mark of each element whose value stands
at a limit of the 16-bit range, and advances the position; in SEEKING with another count it adds nothing. Nothing else
changes but what the end of a command does on the radio line. (R2, R3, R4, R5, R6, R7, R8, R13) -/
def Obligations.InOrderSetJoinsBlock : Prop :=
  ∀ (s : State) (x : SampleSet), s.startUp = none → x.Sendable → s.meas.position < 31 →
    s.meas.lastCount = none ∨ (∃ last, s.meas.lastCount = some last ∧ x.count = (last + 1) % 16) →
    let arrived : Meas :=
      { s.meas with
        current := some x, gap := some 0, lastCount := some x.count
        state := if s.meas.state = .lost then .recovering else s.meas.state
        recovery := if s.meas.state = .lost then 0 else s.meas.recovery
        aux := if x.aux.isSome then x.aux else s.meas.aux
        auxNew := s.meas.auxNew || x.aux.isSome }
    (s.meas.filling = true ∨ x.count = 0 →
      exec (.sampleSet (sampleBytes x)) s =
        .next (finish false s
          { s with
            meas :=
              { arrived with
                filling := true, position := s.meas.position + 1
                sums :=
                  { a := s.meas.sums.a + x.ia.natAbs ^ 2
                    b := s.meas.sums.b + x.ib.natAbs ^ 2
                    c := s.meas.sums.c + x.ic.natAbs ^ 2
                    g := s.meas.sums.g + (max (-32768) (min 32767 (x.ia + x.ib + x.ic))).natAbs ^ 2
                    src := s.meas.sums.src + x.vsrc.natAbs ^ 2
                    load := s.meas.sums.load + x.vload.natAbs ^ 2 }
                clips :=
                  { a := s.meas.clips.a || x.ia = -32768 || x.ia = 32767
                    b := s.meas.clips.b || x.ib = -32768 || x.ib = 32767
                    c := s.meas.clips.c || x.ic = -32768 || x.ic = 32767
                    g :=
                      s.meas.clips.g || x.ia + x.ib + x.ic ≤ -32768 || 32767 ≤ x.ia + x.ib + x.ic } } })) ∧
    (s.meas.filling = false → x.count ≠ 0 →
      exec (.sampleSet (sampleBytes x)) s = .next (finish false s { s with meas := arrived }))

/-- The 32nd in-order set of a block hands one publication to the Overcurrent Unit, the Battery Manager and the Feeder
Coordinator, and to the Energy Monitor when an aux group was captured since the last one. It holds each Q as the floor
of its sum over 32, the block's clip marks with those of the set (samples at -32768 or 32767), the time at 10 ms, the
aux group with its new mark, the presences before and after, and whether the voltage-loss logic runs, with the last
pickup time. Each side's presence advances by its own mean square at the thresholds and the confirm count in force:
LIVE after the configured run of blocks at or above the high threshold, DEAD after a run below the low one, both runs
cleared between them. Sums, marks, new mark and run of discards are cleared, the recovery leads to SOUND after the
second block, and the count reset timer stops when the source is not LIVE then. That the count reset timer stops at
the publication itself is log entry 26; that publications wait in queues until taken is log entry 4; that the
publication is stamped for the voltage-loss logic is log entry 32. (01_measurement_blocks.md, R5, R6, R7, R8, R9, R10,
R11, R14, R51, R148, R152) -/
def Obligations.CompletedBlockIsPublished : Prop :=
  (∀ (s : State) (x : SampleSet) (last : Nat), s.startUp = none → x.Sendable →
     s.meas.filling = true → s.meas.position = 31 → s.meas.state ≠ .lost → s.meas.lastCount = some last →
     x.count = (last + 1) % 16 →
     let aux := if x.aux.isSome then x.aux else s.meas.aux
     let fresh := s.meas.auxNew || x.aux.isSome
     let sums := sumsWith s.meas.sums x
     let confirm := s.cfg.measurement.confirm
     ∃ t p, exec (.sampleSet (sampleBytes x)) s = .next (finish false s t) ∧
       Only [.meas, .mail, .coord] s t ∧
       t.mail =
         { s.mail with
           overcurrent := s.mail.overcurrent ++ [p], battery := s.mail.battery ++ [p]
           coordinator := s.mail.coordinator ++ [p]
           energy := if fresh then s.mail.energy ++ [p] else s.mail.energy
           reasks := if fresh ∧ s.seq.phase = .rechargeWait then s.mail.reasks + 1 else s.mail.reasks } ∧
       p.q.a = (s.meas.sums.a + x.ia.natAbs ^ 2) / 32 ∧ p.q.b = (s.meas.sums.b + x.ib.natAbs ^ 2) / 32 ∧
       p.q.c = (s.meas.sums.c + x.ic.natAbs ^ 2) / 32 ∧
       p.q.g = (s.meas.sums.g + (max (-32768) (min 32767 (x.ia + x.ib + x.ic))).natAbs ^ 2) / 32 ∧
       p.clips = clipsWith s.meas.clips x ∧
       p.aux = aux ∧ p.auxNew = fresh ∧ p.time = s.clock.ms / 10 * 10 ∧
       p.srcWas = s.meas.src.presence ∧ p.src = t.meas.src.presence ∧ p.loadWas = s.meas.load.presence ∧
       p.load = t.meas.load.presence ∧ p.sound = decide (t.meas.state = .sound) ∧
       (p.lossRuns = true ↔
         s.cfg.identity.role = .midpoint ∧ s.loader.defaulted = false ∧ s.mech.position = .closed ∧
           s.seq.phase.isClosed = true) ∧
       p.lastPickup = s.oc.lastPickup ∧
       t.meas =
         { s.meas with
           current := some x, gap := some 0, lastCount := some x.count, aux, auxNew := false, filling := true
           position := 0, sums := Sums.zero, clips := Quad.none, discards := 0
           src := s.meas.src.advance s.derived.tl s.derived.th confirm (sums.src / 32)
           load := s.meas.load.advance s.derived.tl s.derived.th confirm (sums.load / 32)
           state := if s.meas.state = .recovering ∧ s.meas.recovery = 0 then .recovering else .sound
           recovery := if s.meas.state = .recovering then s.meas.recovery + 1 else s.meas.recovery } ∧
       t.coord.pendingLoss = s.coord.pendingLoss ∧
       t.coord.countReset = (if t.meas.src.presence = .live then s.coord.countReset else none)) ∧
  (∀ (tl th confirm q : Nat) (x : Side), tl < th →
     (th ≤ q →
       (x.advance tl th confirm q).below = 0 ∧ (x.advance tl th confirm q).above = min (x.above + 1) confirm ∧
       (x.advance tl th confirm q).presence = if confirm ≤ x.above + 1 then .live else x.presence) ∧
     (q < tl →
       (x.advance tl th confirm q).above = 0 ∧ (x.advance tl th confirm q).below = min (x.below + 1) confirm ∧
       (x.advance tl th confirm q).presence = if confirm ≤ x.below + 1 then .dead else x.presence) ∧
     (tl ≤ q ∧ q < th → x.advance tl th confirm q = { x with above := 0, below := 0 }))

/-- When the gap timer has reached the gap limit and no load test is to be aborted, the expiry makes measurement LOST,
counts a loss, discards the partial block (counted when it holds a set), clears the last set count, makes both sides
UNKNOWN with their runs at 0, raises MEASUREMENT LOST, stops the count reset timer, and keeps the pending loss. That
the count reset timer stops at the loss itself is log entry 26; that publications not yet taken stay waiting is the
model's choice (log entry 51). (R4, R12, R15, R152) -/
def Obligations.GapLimitLosesMeasurement : Prop :=
  ∀ (s : State) (elapsed : Nat), s.startUp = none → s.meas.state ≠ .lost → s.meas.gap = some elapsed →
    s.derived.gapLimit ≤ elapsed → (s.battery.test ≠ .running ∨ s.meas.src.presence ≠ .live) →
    ∃ t, exec .gapTimerExpiry s = .next (finish false s t) ∧ Only [.meas, .alarms, .coord] s t ∧
      t.alarms = { s.alarms with flags := s.alarms.flags ||| 2#12 } ∧
      t.coord.countReset = none ∧ t.coord.pendingLoss = s.coord.pendingLoss ∧
      t.meas =
        { s.meas with
          state := .lost, losses := min (s.meas.losses + 1) 65535, filling := false, position := 0
          sums := Sums.zero, clips := Quad.none, lastCount := none, gap := none, discards := 0
          src := ⟨.unknown, 0, 0⟩, load := ⟨.unknown, 0, 0⟩
          blocksDiscarded :=
            if s.meas.filling = true ∧ 0 < s.meas.position then min (s.meas.blocksDiscarded + 1) 65535
            else s.meas.blocksDiscarded }

/-- With a publication waiting, the evaluation takes the oldest, keeps its Q as the latest, notes its time as the last
pickup when some element is picked up, builds up the event summary, hands on at most one passage indication, leaves
the offer, and touches only the Overcurrent Unit and its reports; in QUIET and DEMANDED the unit state, accumulators
and hold counter stay and nothing is reported. The event summary is emptied at a RUNNING entry with new event set;
while an event is open the block adds its picked-up elements and raises each element's peak to its Q, and an entry to
HOLD sets hold used. That a block counts for the event open when it is evaluated, and that an event is open from its
first block, when its pickup report still waits, is log entry 48. That a publication still waiting when measurement
loss is declared is evaluated like any other, also while the state is LOST, is the model's choice (log entry 51).
(R20, R24, R28, R31, R32, R38, R39) -/
def Obligations.BlockEvaluationTakesPublication : Prop :=
  ∀ (s : State) (p : Publication) (rest : List Publication), s.startUp = none → s.mail.overcurrent = p :: rest →
    ∃ t reports passages, exec .blockEvaluation s = .next (finish false s t) ∧ Only [.oc, .mail] s t ∧
      t.mail =
        { s.mail with
          overcurrent := rest, reports := s.mail.reports ++ reports, passages := s.mail.passages ++ passages } ∧
      passages.length ≤ 1 ∧ t.oc.latestQ = p.q ∧ t.oc.offer = s.oc.offer ∧
      t.oc.eventSummary = eventSummaryAfter s p t.oc.unit ∧
      t.oc.lastPickup =
        (if (s.pickedSet p).a ∨ (s.pickedSet p).b ∨ (s.pickedSet p).c ∨ (s.pickedSet p).g then some p.time
         else s.oc.lastPickup) ∧
      (s.oc.unit = .quiet ∨ s.oc.unit = .demanded →
        t.oc.unit = s.oc.unit ∧ t.oc.fast = s.oc.fast ∧ t.oc.delayed = s.oc.delayed ∧ t.oc.hold = s.oc.hold ∧
          reports = [])

/-- With derived settings made from settings in range, a phase element is picked up exactly when its Q is at least the
squared phase pickup or its clip mark is set, and the ground element likewise with the ground pickup. The reached
point of a block is a used point whose threshold is reached, or any used point when the block is clipped, and no
reached point has a higher index. (R17, R20, R21) -/
def Obligations.PickupAndReachedPointAreExact : Prop :=
  (∀ (s : State) (p : Publication), s.loader.derived = deriveSettings s.loader.settings →
     SettingsInRange s.loader.settings →
     let picked := s.pickedSet p
     let phase := s.cfg.protection.phasePickup ^ 2
     (picked.a = true ↔ phase ≤ p.q.a ∨ p.clips.a = true) ∧ (picked.b = true ↔ phase ≤ p.q.b ∨ p.clips.b = true) ∧
       (picked.c = true ↔ phase ≤ p.q.c ∨ p.clips.c = true) ∧
       (picked.g = true ↔ s.cfg.protection.groundPickup ^ 2 ≤ p.q.g ∨ p.clips.g = true)) ∧
  (∀ (points : List CurvePoint) (table : List Nat) (clip : Bool) (q k : Nat),
     reachedPoint points table clip q = some k ↔
       Reaches points table clip q k ∧ ∀ j, Reaches points table clip q j → j ≤ k)

/-- In RUNNING and HOLD, for a shot that is not hot-line forced, and for a hot-line forced one whose FAST is already
armed or whose offer is not protective, a block evaluation moves each of the eight accumulators by R22: an unarmed one
is 0, an armed one adds the increment of its reached point up to 1,048,576, and with no point reached it falls by the
curve's reset decrement to no less than 0. That a publication still waiting when measurement loss is declared is
evaluated like any other, also while the state is LOST, is the model's choice (log entry 51). (R21, R22, R26, R37) -/
def Obligations.AccumulatorsMoveByReachedPoint : Prop :=
  ∀ (s : State) (p : Publication) (rest : List Publication) (a : Active), s.startUp = none →
    s.mail.overcurrent = p :: rest → s.oc.unit = .running ∨ s.oc.unit = .hold → s.oc.active = some a →
    a.hotForced = false ∨ a.protective = false ∨ s.oc.fastArmed = true →
    let c := s.cfg.protection
    ∃ t, exec .blockEvaluation s = .next (finish false s t) ∧
      moves s.oc.fastArmed c.fastCurve c.fastReset
        (reachedPoint c.fastCurve s.derived.phaseFast p.clips.a p.q.a) s.oc.fast.a t.oc.fast.a ∧
      moves s.oc.fastArmed c.fastCurve c.fastReset
        (reachedPoint c.fastCurve s.derived.phaseFast p.clips.b p.q.b) s.oc.fast.b t.oc.fast.b ∧
      moves s.oc.fastArmed c.fastCurve c.fastReset
        (reachedPoint c.fastCurve s.derived.phaseFast p.clips.c p.q.c) s.oc.fast.c t.oc.fast.c ∧
      moves s.oc.fastArmed c.fastCurve c.fastReset
        (reachedPoint c.fastCurve s.derived.groundFast p.clips.g p.q.g) s.oc.fast.g t.oc.fast.g ∧
      moves s.oc.delayedArmed c.delayedCurve c.delayedReset
        (reachedPoint c.delayedCurve s.derived.phaseDelayed p.clips.a p.q.a) s.oc.delayed.a t.oc.delayed.a ∧
      moves s.oc.delayedArmed c.delayedCurve c.delayedReset
        (reachedPoint c.delayedCurve s.derived.phaseDelayed p.clips.b p.q.b) s.oc.delayed.b t.oc.delayed.b ∧
      moves s.oc.delayedArmed c.delayedCurve c.delayedReset
        (reachedPoint c.delayedCurve s.derived.phaseDelayed p.clips.c p.q.c) s.oc.delayed.c t.oc.delayed.c ∧
      moves s.oc.delayedArmed c.delayedCurve c.delayedReset
        (reachedPoint c.delayedCurve s.derived.groundDelayed p.clips.g p.q.g) s.oc.delayed.g t.oc.delayed.g

/-- A picked-up block in WATCHING with an offer held appends a pickup report with the offer's new event mark (followed
at most by the demand of the same block for the offer's shot), loads the active settings from the offer, keeps or
clears fast-blocked by the new event mark and sets it when a held record that is FRESH, protective and downstream (its
source segment is this station's load segment and not 0, and neither station is a TIE) has a FAULT report heard no
more than the coordination window before, and arms FAST and DELAYED by the table of R26; an offer that is not
protective arms nothing and reports no demand. A hot-line begin by the key in READY, RECLAIM and TIMING replaces the
offer held (FAST, hold disabled, hot-line forced; shot and new event kept), makes the active settings so only with the
unit in RUNNING or HOLD, and moves no accumulator and no state; in TRIPPING it sets the hot-line mark; in RECLOSING,
LOCKOUT and STANDBY it brings the mode alone into force; with the mode in force it changes nothing. A hot-line end by
the key, with no other hot-line condition, ends the mode and keeps the mark; in READY, RECLAIM and TIMING the offer is
updated with the curve of its shot in the reverted plan, hold enabled and hot-line forced clear, while the active
settings stay; elsewhere the unit stays as it is. At the next block under hot-line forced a protective station whose
FAST is not armed moves its FAST accumulators as armed ones from 0, and with hold disabled a full FAST with no full
DELAYED demands at once. That a publication still waiting when measurement loss is declared is evaluated like any
other, also while the state is LOST, is the model's choice (log entry 51). (R25, R26, R27, R35, R37, R42, R58, R59,
R145, R146, R165) -/
def Obligations.RunningEntryLoadsOffer : Prop :=
  (∀ (s : State) (p : Publication) (rest : List Publication) (o : Offer), s.startUp = none →
     s.mail.overcurrent = p :: rest → s.oc.unit = .watching → s.oc.offer = some o → (s.pickedSet p).any = true →
     ∃ t more, exec .blockEvaluation s = .next (finish false s t) ∧
       t.mail.reports = s.mail.reports ++ .pickup o.newEvent :: more ∧
       (∀ r ∈ more, ∃ curve elements, r = .demand curve elements o.shot) ∧
       t.oc.active =
         some
           { shot := o.shot, curve := o.curve, protective := o.protective, holdEnabled := o.holdEnabled
             hotForced := o.hotForced } ∧
       (t.oc.fastBlocked = true ↔ (s.oc.fastBlocked = true ∧ o.newEvent = false) ∨ FaultHeardRecently s) ∧
       (t.oc.fastArmed = true ↔
         o.protective = true ∧ (o.hotForced = true ∨ (o.curve = .fast ∧ t.oc.fastBlocked = false))) ∧
       t.oc.delayedArmed = o.protective ∧
       (o.protective = false →
         t.oc.unit = .running ∧ t.oc.fast = Quad.zero ∧ t.oc.delayed = Quad.zero ∧ more = [])) ∧
  (∀ (s : State) (held : Nat) (grade : PanelGrade), s.startUp = none →
     s.tags.keyOn = false → HasHeld s.tags.keyInput held 50 s.tags.keyOn → s.tags.slots.length = 8 →
     ∃ t, exec (.hotLineKey true held grade) s = .next (finish false s t) ∧
       (s.seq.hotLine = true → t.seq = s.seq ∧ t.oc = s.oc) ∧
       (s.seq.hotLine = false →
         (s.seq.phase = .ready ∨ s.seq.phase = .reclaim ∨ s.seq.phase = .timing →
           t.seq = { s.seq with hotLine := true } ∧
           ∀ o, s.oc.offer = some o → s.oc.unit ≠ .quiet →
             let forced (a : Active) : Active := { a with curve := .fast, holdEnabled := false, hotForced := true }
             t.oc =
               { s.oc with
                 offer :=
                   some
                     { o with
                       curve := .fast, protective := s.protective, holdEnabled := false, hotForced := true }
                 active :=
                   if s.oc.unit = .running ∨ s.oc.unit = .hold then s.oc.active.map forced else s.oc.active }) ∧
         (s.seq.phase = .tripping → t.seq = { s.seq with hotLine := true, hotMark := true } ∧ t.oc = s.oc) ∧
         (s.seq.phase = .reclosing ∨ s.seq.phase = .lockout ∨ s.seq.phase = .standby →
           t.seq = { s.seq with hotLine := true } ∧ t.oc = s.oc))) ∧
  (∀ (s : State) (held : Nat) (grade : PanelGrade) (tag : LocalTag), s.startUp = none →
     s.tags.keyOn = true → HasHeld s.tags.keyInput held 50 s.tags.keyOn → (s.tags.slot 0).tag = some tag →
     s.seq.hotLine = true →
     ∃ t, exec (.hotLineKey false held grade) s = .next (finish false s t) ∧
       (OtherHotLine s → t.seq = s.seq ∧ t.oc = s.oc) ∧
       (¬ OtherHotLine s →
         t.seq = { s.seq with hotLine := false } ∧
         (s.seq.phase = .ready ∨ s.seq.phase = .reclaim ∨ s.seq.phase = .timing →
           ∀ o, s.oc.offer = some o → s.oc.unit ≠ .quiet →
             let shots := s.cfg.sequence.shots
             t.oc =
               { s.oc with
                 offer :=
                   some
                     { o with
                       curve :=
                         if s.cfg.identity.role = .tie ∨ s.loader.defaulted = true then .delayed
                         else s.cfg.sequence.curves.getD (min o.shot shots - 1) .delayed
                       protective := s.protective, holdEnabled := true, hotForced := false } }) ∧
         (s.seq.phase ≠ .ready → s.seq.phase ≠ .reclaim → s.seq.phase ≠ .timing → t.oc = s.oc))) ∧
  (∀ (s : State) (p : Publication) (rest : List Publication) (a : Active), s.startUp = none →
     s.mail.overcurrent = p :: rest → s.oc.unit = .running ∨ s.oc.unit = .hold → s.oc.active = some a →
     a.hotForced = true → a.protective = true → s.oc.fastArmed = false →
     let c := s.cfg.protection
     ∃ t reports, exec .blockEvaluation s = .next (finish false s t) ∧
       t.mail.reports = s.mail.reports ++ reports ∧ (t.oc.unit ≠ .watching → t.oc.fastArmed = true) ∧
       moves true c.fastCurve c.fastReset
         (reachedPoint c.fastCurve s.derived.phaseFast p.clips.a p.q.a) 0 t.oc.fast.a ∧
       moves true c.fastCurve c.fastReset
         (reachedPoint c.fastCurve s.derived.phaseFast p.clips.b p.q.b) 0 t.oc.fast.b ∧
       moves true c.fastCurve c.fastReset
         (reachedPoint c.fastCurve s.derived.phaseFast p.clips.c p.q.c) 0 t.oc.fast.c ∧
       moves true c.fastCurve c.fastReset
         (reachedPoint c.fastCurve s.derived.groundFast p.clips.g p.q.g) 0 t.oc.fast.g ∧
       (a.holdEnabled = false → ¬ someFull t.oc.delayed → someFull t.oc.fast →
         t.oc.unit = .demanded ∧ reports = [.demand .fast (t.oc.fast.map isFull) a.shot]))

/-- After a block in RUNNING: a full DELAYED accumulator gives a DELAYED demand naming the full elements and DEMANDED;
otherwise a full FAST accumulator gives a FAST demand when hold is not enabled, the hold count is 0 or no blocking
record is held, and otherwise HOLD with the counter at the hold count; otherwise an empty picked-up set with all
accumulators at 0 gives WATCHING and a timing-ended report, and anything else leaves RUNNING and no report. A blocking
record is FRESH, protective and downstream: its source segment is this station's load segment and not 0, and neither
station is a TIE. That a publication still waiting when measurement loss is declared is evaluated like any other, also
while the state is LOST, is the model's choice (log entry 51). (R28, R31, R32, R145, R146) -/
def Obligations.RunningBlockDecidesDemandOrHold : Prop :=
  ∀ (s : State) (p : Publication) (rest : List Publication) (a : Active), s.startUp = none →
    s.mail.overcurrent = p :: rest → s.oc.unit = .running → s.oc.active = some a →
    ∃ t reports, exec .blockEvaluation s = .next (finish false s t) ∧ t.mail.reports = s.mail.reports ++ reports ∧
      (someFull t.oc.delayed →
        t.oc.unit = .demanded ∧ reports = [.demand .delayed (t.oc.delayed.map isFull) a.shot]) ∧
      (¬ someFull t.oc.delayed ∧ someFull t.oc.fast ∧
          (a.holdEnabled = false ∨ s.cfg.protection.holdCount = 0 ∨ ¬ BlockingPeerHeld s) →
        t.oc.unit = .demanded ∧ reports = [.demand .fast (t.oc.fast.map isFull) a.shot]) ∧
      (¬ someFull t.oc.delayed ∧ someFull t.oc.fast ∧ a.holdEnabled = true ∧ 0 < s.cfg.protection.holdCount ∧
          BlockingPeerHeld s →
        t.oc.unit = .hold ∧ t.oc.hold = s.cfg.protection.holdCount ∧ t.oc.eventSummary.holdUsed = true ∧
          reports = []) ∧
      (¬ someFull t.oc.delayed ∧ ¬ someFull t.oc.fast →
        (((s.pickedSet p).any = false ∧ t.oc.fast = Quad.zero ∧ t.oc.delayed = Quad.zero →
            t.oc.unit = .watching ∧ t.oc.active = none ∧ reports = [.timingEnded]) ∧
          (¬ ((s.pickedSet p).any = false ∧ t.oc.fast = Quad.zero ∧ t.oc.delayed = Quad.zero) →
            t.oc.unit = .running ∧ reports = [])))

/-- HOLD_COUNTER_EXPIRY taken in HOLD with the hold counter at 1 and a block waiting evaluates that block: a full
DELAYED accumulator gives a DELAYED demand, otherwise a full FAST one gives a FAST demand naming the full elements
with the counter at 0, and otherwise the unit returns to RUNNING with the counter at 0 and no demand. BLOCK_EVALUATION
taken in HOLD, at any count, decides after the move of its block: a full DELAYED accumulator gives a DELAYED demand
and leaves the counter; otherwise, with no FAST accumulator full, the unit returns to RUNNING with the counter at 0
and reports nothing; otherwise a full FAST one demands at once when hold is disabled (hot-line forced) or the counter
is at most 1, and with hold enabled and the counter above 1 the counter falls by 1, the unit stays in HOLD and nothing
is reported. That HOLD_COUNTER_EXPIRY is the evaluation of that last block is the model's reading (log entry 13). That
a publication still waiting when measurement loss is declared is evaluated like any other, also while the state is
LOST, is the model's choice (log entry 51). (R33, R31, R37) -/
def Obligations.HoldCounterExpiryDemandsFast : Prop :=
  ∀ (s : State) (p : Publication) (rest : List Publication) (a : Active), s.startUp = none →
    s.mail.overcurrent = p :: rest → s.oc.unit = .hold → s.oc.active = some a →
    (s.oc.hold = 1 →
      ∃ t reports, exec .holdCounterExpiry s = .next (finish false s t) ∧ Only [.oc, .mail] s t ∧
        t.mail.overcurrent = rest ∧ t.mail.reports = s.mail.reports ++ reports ∧ t.oc.latestQ = p.q ∧
        (someFull t.oc.delayed →
          t.oc.unit = .demanded ∧ reports = [.demand .delayed (t.oc.delayed.map isFull) a.shot]) ∧
        (¬ someFull t.oc.delayed ∧ someFull t.oc.fast →
          t.oc.unit = .demanded ∧ (a.holdEnabled = true → t.oc.hold = 0) ∧
            reports = [.demand .fast (t.oc.fast.map isFull) a.shot]) ∧
        (¬ someFull t.oc.delayed ∧ ¬ someFull t.oc.fast →
          t.oc.unit = .running ∧ t.oc.hold = 0 ∧ reports = [])) ∧
    (∃ t reports, exec .blockEvaluation s = .next (finish false s t) ∧ Only [.oc, .mail] s t ∧
      t.mail.overcurrent = rest ∧ t.mail.reports = s.mail.reports ++ reports ∧ t.oc.latestQ = p.q ∧
      t.oc.active = s.oc.active ∧
      (someFull t.oc.delayed →
        t.oc.unit = .demanded ∧ t.oc.hold = s.oc.hold ∧
          reports = [.demand .delayed (t.oc.delayed.map isFull) a.shot]) ∧
      (¬ someFull t.oc.delayed ∧ ¬ someFull t.oc.fast → t.oc.unit = .running ∧ t.oc.hold = 0 ∧ reports = []) ∧
      (¬ someFull t.oc.delayed ∧ someFull t.oc.fast →
        (a.holdEnabled = false ∨ s.oc.hold ≤ 1 →
          t.oc.unit = .demanded ∧ reports = [.demand .fast (t.oc.fast.map isFull) a.shot]) ∧
        (a.holdEnabled = true ∧ s.oc.hold ≤ 1 → t.oc.hold = 0) ∧
        (a.holdEnabled = true ∧ 1 < s.oc.hold →
          t.oc.unit = .hold ∧ t.oc.hold = s.oc.hold - 1 ∧ reports = [])))

/-- With an offer held, an evaluated block that picks up counts in the passage run up to the confirm count, and one
that does not clears it; the indication is given at the block that brings the run to the confirm count, once per shot
(a RUNNING entry of another shot or of a new event starts afresh), with the summary's shot, elements, highest DELAYED
point and clipped mark. Taking an indication outside DEFAULTED operation puts one FAULT notice in the outbox, to be
sent the configured number of times; its seven bytes hold role, effective protective flag (log entry 11), clipped mark
and elements, the two segments, event number, shot and highest point index. At a full outbox it evicts the oldest
ROUTINE notice not on the air, and without one is dropped and counted. In DEFAULTED operation it only leaves the
mailbox. The shot of a summary that DEMANDED entered from WATCHING takes, with no active settings, and that a summary
held of another shot is added to there, is the model's choice (log entry 36). That a publication still waiting when
measurement loss is declared is evaluated like any other, also while the state is LOST, is the model's choice (log
entry 51). (R38, R147, R143, R125, R126, R127) -/
def Obligations.PassageIndicationOffersFault : Prop :=
  (∀ (s : State) (p : Publication) (rest : List Publication) (o : Offer), s.startUp = none →
     s.mail.overcurrent = p :: rest → s.oc.offer = some o →
     ∃ t, exec .blockEvaluation s = .next (finish false s t) ∧
       ((s.pickedSet p).any = false →
         t.oc.passageRun = 0 ∧ t.mail.passages = s.mail.passages ∧ t.oc.shotSummary = s.oc.shotSummary) ∧
       ((s.pickedSet p).any = true →
         let confirm := s.cfg.protection.passageConfirm
         let indicated := ((summaryBefore s o).map ShotSummary.indicated).getD false
         t.oc.passageRun = min (s.oc.passageRun + 1) confirm ∧
         (s.oc.passageRun + 1 < confirm ∨ indicated = true →
           t.oc.shotSummary = some (summaryWith s p o) ∧ t.mail.passages = s.mail.passages) ∧
         (confirm ≤ s.oc.passageRun + 1 → indicated = false →
           t.oc.shotSummary = some { summaryWith s p o with indicated := true } ∧
             t.mail.passages = s.mail.passages ++ [{ summaryWith s p o with indicated := true }]))) ∧
  (∀ (s : State) (x : ShotSummary) (rest : List ShotSummary), s.startUp = none → s.mail.passages = x :: rest →
     let notice : Notice :=
       { kind := .fault
         payload :=
           [byte (roleCode s.cfg.identity.role * 64 + flag s.protective 32 + flag x.clipped 16 +
               (flag x.elements.a 8 + flag x.elements.b 4 + flag x.elements.c 2 + flag x.elements.g 1)),
             byte s.cfg.identity.sourceSegment, byte s.cfg.identity.loadSegment,
             byte (s.seq.eventNumber / 256), byte s.seq.eventNumber, byte x.shot, byte x.highest]
         made := 0, total := s.cfg.radio.repeats, seqNo := none, replaced := false, attempted := false }
     let taken : State := { s with mail := { s.mail with passages := rest } }
     let onAir (m : Notice) : Prop := m.attempted = true ∧ s.txKeyOn = true
     (s.loader.defaulted = true → exec .passageIndication s = .next (finish false s taken)) ∧
     (s.loader.defaulted = false →
       (s.radio.outbox.length < 8 →
         exec .passageIndication s =
           .next (finish false s
             { taken with radio := { s.radio with outbox := insertNotice notice s.radio.outbox } })) ∧
       (∀ before m after, 8 ≤ s.radio.outbox.length → s.radio.outbox = before ++ m :: after → m.kind = .state →
         ¬ onAir m → (∀ n ∈ before, n.kind = .state → onAir n) →
         exec .passageIndication s =
           .next (finish false s
             { taken with radio := { s.radio with outbox := insertNotice notice (before ++ after) } })) ∧
       (8 ≤ s.radio.outbox.length → (∀ n ∈ s.radio.outbox, n.kind = .state → onAir n) →
         exec .passageIndication s =
           .next (finish false s
             { taken with
               radio := { s.radio with outboxOverflow := min (s.radio.outboxOverflow + 1) 65535 } }))))

/-- For every state whose accumulators are at most 1,048,576, whose unarmed accumulators are 0 and whose QUIET or
WATCHING unit is unarmed, the state after any step has the same property. (R22, R24, R26, R30) -/
def Obligations.AccumulatorInvariantKept : Prop :=
  ∀ s t : State, OcInv s.oc → step s = .next t → OcInv t.oc

/-- A pickup report taken in READY or RECLAIM stops the sequence timers and enters TIMING, remembers which it came
from, sets the shot counter to 1 from READY and keeps it from RECLAIM, and, with the new event mark, starts an event
with the next event number (1 after 65,535), the Station Clock seconds, the grade in effect and no shots; nothing else
changes but the tie delay and what the end of a command does on the radio line. That a pickup with the new event mark
in RECLAIM with an event still open replaces that event, with no record of it, is the model's choice (log entry 46).
(R43, R45) -/
def Obligations.PickupEntersTiming : Prop :=
  ∀ (s : State) (newEvent : Bool) (rest : List OcReport), s.startUp = none →
    s.mail.reports = .pickup newEvent :: rest → s.seq.phase = .ready ∨ s.seq.phase = .reclaim →
    let number := if s.seq.eventNumber = 65535 then 1 else s.seq.eventNumber + 1
    exec .pickupReport s =
      .next (finish false s
        { s with
          mail := { s.mail with reports := rest }
          coord := { s.coord with tie := none }
          seq :=
            { s.seq with
              phase := .timing, deadTimer := none, waitTimer := none, reclaimTimer := none
              fromReady := decide (s.seq.phase = .ready)
              shot := if s.seq.phase = .ready then 1 else s.seq.shot
              eventNumber := if newEvent then number else s.seq.eventNumber
              event :=
                if newEvent then
                  some { number := number, start := s.clock.seconds, grade := s.battery.grade, shots := 0 }
                else s.seq.event } })

/-- For every state in TIMING with an event open and a timing-ended report in front: entered from READY, the sequence
enters READY with the READY offer (shot 1, new event) and the event ends CLEARED with its record; entered from
RECLAIM, the sequence enters RECLAIM with the reclaim timer loaded anew, the shot counter and the event kept, no
record written, and the RECLAIM offer with new event clear. That the record takes the event summary and fast-blocked
as they stand, also when a block of a new event has begun them anew while this report waited, is the model's choice
(log entry 37). (R46) -/
def Obligations.TimingEndedReturns : Prop :=
  ∀ (s : State) (e : EventContext) (rest : List OcReport), s.startUp = none → s.mail.reports = .timingEnded :: rest →
    s.seq.phase = .timing → s.seq.event = some e →
    ∃ t, exec .timingEnded s = .next (finish false s t) ∧ Only [.mail, .oc, .seq, .coord, .log] s t ∧
      t.mail = { s.mail with reports := rest } ∧
      (s.seq.fromReady = true →
        t.seq.phase = .ready ∧ t.seq.shot = 1 ∧ eventEnded s t .cleared none ∧
          t.oc.offer = some (offerNow s 1 true)) ∧
      (s.seq.fromReady = false →
        t.seq.phase = .reclaim ∧ t.seq.reclaimTimer = some (s.cfg.sequence.reclaim * 1000) ∧ t.seq.shot = s.seq.shot ∧
          t.seq.event = s.seq.event ∧ t.log = s.log ∧ t.oc.offer = some (offerNow s s.seq.shot false))

/-- In RECLAIM the expired timer enters READY with shot 1 and the READY offer, and an open event ends CLEARED with its
record while nothing is recorded without one; a picked-up block then evaluated under the READY offer reports a new
event's pickup with shot 1, whose pickup report starts the next event at shot 1. A pickup taken first stops the timer,
keeps the shot and, without the new event mark, the event, and the later expiry has no effect. That a waiting report
is taken before the expiry is log entry 4. That a publication still waiting when measurement loss is declared is
evaluated like any other, also while the state is LOST, is the model's choice (log entry 51). (R54) -/
def Obligations.ReclaimExpiryEndsEvent : Prop :=
  ∀ s : State, s.startUp = none → s.seq.phase = .reclaim →
    (s.seq.reclaimTimer = some 0 → s.mail.reports = [] →
      ∃ t, exec .reclaimExpiry s = .next (finish false s t) ∧ Only [.oc, .seq, .coord, .log] s t ∧
        t.seq.phase = .ready ∧ t.seq.shot = 1 ∧ t.seq.reclaimTimer = none ∧ eventEnded s t .cleared none ∧
        t.seq.eventNumber = s.seq.eventNumber ∧ t.oc.offer = some (offerNow s 1 true)) ∧
    (∀ (p : Publication) (rest : List Publication), s.seq.reclaimTimer = some 0 → s.mail.reports = [] →
      s.oc.unit = .watching → s.mail.overcurrent = p :: rest → (s.pickedSet p).any = true →
      ∃ t u v more, exec .reclaimExpiry s = .next t ∧ exec .blockEvaluation t = .next u ∧
        u.mail.reports = .pickup true :: more ∧ u.oc.active.map Active.shot = some 1 ∧
        exec .pickupReport u = .next v ∧ v.seq.phase = .timing ∧ v.seq.shot = 1 ∧
        v.seq.eventNumber = (if s.seq.eventNumber = 65535 then 1 else s.seq.eventNumber + 1) ∧
        v.seq.event.map EventContext.number = some v.seq.eventNumber) ∧
    (∀ (newEvent : Bool) (rest : List OcReport), s.mail.reports = .pickup newEvent :: rest →
      ∃ t, exec .pickupReport s = .next (finish false s t) ∧ t.seq.phase = .timing ∧ t.seq.reclaimTimer = none ∧
        t.seq.shot = s.seq.shot ∧ (newEvent = false → t.seq.event = s.seq.event) ∧
        exec .reclaimExpiry t = .next (finish false t t))

/-- A trip demand taken in TIMING with the switch CLOSED or in DISAGREE, no operation in flight and no load test
running enters TRIPPING with the one cause FAULT and the hot-line mark of the moment, drives the trip coil, starts the
operation timer, takes the phase Q of the last block published, waiting or evaluated, as the trip-start Q, clears TRIP
READY, loads the trip post-fire count with 2, and changes nothing else but what the end of a command does on the radio
line. (R47, R67, R76, R87) -/
def Obligations.TripDemandFiresTripCoil : Prop :=
  ∀ (s : State) (curve : Curve) (elements : Quad Bool) (shot : Nat) (rest : List OcReport), s.startUp = none →
    s.mail.reports = .demand curve elements shot :: rest → s.seq.phase = .timing → s.mech.operation = .none →
    s.mech.position = .closed ∨ s.mech.position = .disagree → s.battery.test ≠ .running →
    exec .tripDemand s =
      .next (finish false s
        { s with
          mail := { s.mail with reports := rest }
          coord := { s.coord with tie := none }
          seq :=
            { s.seq with
              phase := .tripping, deadTimer := none, waitTimer := none, reclaimTimer := none
              causes := ⟨true, false, false, false⟩, hotMark := s.seq.hotLine }
          mech :=
            { s.mech with
              operation := .trip, operationTimer := some 0, disagreeTimer := none, tripCoil := true
              tripStartQ := some (lastPublished s) }
          energy :=
            (State.decideCapChargers
              { s with
                mech := { s.mech with tripCoil := true }
                energy := { s.energy with tripReady := false, tripFired := 2 } }).energy })

/-- The Close Gate's six checks give their reasons in the order of R78, the first that fails deciding, its fourth
being the blocking conditions of R79, and all six hold exactly when there is no reason. At the expired dead time with
the switch OPEN and every gate check holding, the close coil is driven and the sequence is RECLOSING with a reclose in
flight. A refusal is recorded with requester RECLOSE and leads to RECHARGE WAIT for TRIP ENERGY or CLOSE ENERGY with a
recharge wait above 0, to LOCKOUT ENERGY with a recharge wait of 0, and to LOCKOUT GATE with the reason as detail for
any other; each lockout ends the open event. In RECHARGE WAIT each waiting aux update asks again with the same
outcomes, an energy refusal keeping the wait, and the expired wait enters LOCKOUT ENERGY. (R50, R51, R69, R78, R79,
R81, R87) -/
def Obligations.GateAnswersDecideReclose : Prop :=
  (∀ s : State, GateOrder s ∧ ∀ n, n ∈ s.targets ↔ IsTarget s n) ∧
  (∀ s : State, s.startUp = none → s.seq.phase = .dead → s.seq.deadTimer = some 0 → GatePasses s →
     s.mech.position = .opened →
     ∃ t, exec .deadTimeExpiry s = .next (finish false s t) ∧ CloseStarted s t true ∧
       Only [.seq, .coord, .oc, .mail, .mech, .energy, .battery] s t) ∧
  (∀ (s : State) (r : GateReason), s.startUp = none → s.seq.phase = .dead → s.seq.deadTimer = some 0 →
     s.gateReason = some r →
     ∃ t, exec .deadTimeExpiry s = .next (finish false s t) ∧ t.mech = s.mech ∧ t.energy = s.energy ∧
       t.gate = some { reason := r, requester := .reclose, time := s.clock.seconds } ∧ t.oc.unit = .quiet ∧
       ((r = .tripEnergy ∨ r = .closeEnergy) ∧ 0 < s.cfg.sequence.recharge →
         t.seq.phase = .rechargeWait ∧ t.seq.waitTimer = some (s.cfg.sequence.recharge * 1000) ∧
           t.seq.event = s.seq.event ∧ t.seq.shot = s.seq.shot ∧ t.log = s.log) ∧
       ((r = .tripEnergy ∨ r = .closeEnergy) ∧ s.cfg.sequence.recharge = 0 →
         t.seq.phase = .lockout ∧ t.seq.reason = some .energy ∧ t.seq.detail = none ∧
           eventEnded s t .lockout (some .energy)) ∧
       (r ≠ .tripEnergy ∧ r ≠ .closeEnergy →
         t.seq.phase = .lockout ∧ t.seq.reason = some .gate ∧ t.seq.detail = some r ∧
           eventEnded s t .lockout (some .gate))) ∧
  (∀ s : State, s.startUp = none → s.seq.phase = .rechargeWait →
     (∀ n, s.mail.reasks = n + 1 → GatePasses s → s.mech.position = .opened →
       ∃ t, exec .rechargeWaitReask s = .next (finish false s t) ∧ CloseStarted s t true ∧ t.mail.reasks = n) ∧
     (∀ n, s.mail.reasks = n + 1 → s.gateReason = some .tripEnergy ∨ s.gateReason = some .closeEnergy →
       ∃ t, exec .rechargeWaitReask s = .next (finish false s t) ∧ Only [.mail, .gate] s t ∧
         t.mail = { s.mail with reasks := n }) ∧
     (∀ n r, s.mail.reasks = n + 1 → s.gateReason = some r → r ≠ .tripEnergy → r ≠ .closeEnergy →
       ∃ t, exec .rechargeWaitReask s = .next (finish false s t) ∧ t.seq.phase = .lockout ∧
         t.seq.reason = some .gate ∧ t.seq.detail = some r ∧ eventEnded s t .lockout (some .gate)) ∧
     (s.seq.waitTimer = some 0 →
       ∃ t, exec .rechargeWaitExpiry s = .next (finish false s t) ∧
         Only [.seq, .coord, .oc, .mail, .log, .alarms] s t ∧
         t.seq.phase = .lockout ∧ t.seq.reason = some .energy ∧ t.seq.detail = none ∧ t.seq.waitTimer = none ∧
         t.alarms.isPending .lockout = true ∧ eventEnded s t .lockout (some .energy)))

/-- For every state in which a coil is driven exactly while its operation is in flight, TRIPPING goes with a trip and
RECLOSING with a close, a JAMMED switch stands in LOCKOUT or STANDBY, the open states hold the Overcurrent Unit QUIET
without an offer, and start-up stands in LOCKOUT (a value of the model, log entry 7), any step gives such a state; and
any step keeps hot-line mode out of DEAD and RECHARGE WAIT, the shot counter at least 1 and the configured plan at
least one shot. In start-up the tag tables hold no tag, the receiver is asleep (log entry 7) with the transmitter and
the duty cycle at rest, the Overcurrent Unit is QUIET without an offer and no operation is in flight: any step keeps
that. (R45, R50, R58, R67, R69, R71, R72, R30, R42, R134, R179) -/
def Obligations.SwitchAndHotLineInvariantsKept : Prop :=
  (∀ s t : State, SwitchInv s → step s = .next t → SwitchInv t) ∧
  (∀ s t : State, HotLineInv s → step s = .next t → HotLineInv t) ∧
  (∀ s t : State, StartingInv s → step s = .next t → StartingInv t)

/-- A trip whose contacts have settled at OPEN completes in TRIPPING: the coil is released, the position OPEN, a trip
counted, floor(Q / 1,048,576) of the trip-start Q added to each phase's wear up to 2^32 - 1, and WEAR LIMIT raised
when some wear is then at or above a limit above 0. Causes and mark are cleared, the offer withdrawn, and the first
applying row of R48 leads to DEAD (with the dead time of the shot loaded and a shot added to the open event), to
STANDBY or to LOCKOUT with its reason, where the open event ends with a record of its shots and peak. A trip with a
cause SECTIONALIZE or ISOLATE, whatever row applied, offers an ISOLATE notice outside DEFAULTED operation, to be sent
the repeat count of times: its seven bytes hold role, effective protective flag (log entry 11), cause, the two
segments, the event number, and the faulted and cut-off segments of the cause. An outbox full of URGENT notices drops
and counts it. That the contacts' filters are state is log entry 9. (R48, R50, R65, R68, R75, R76, R77, R126, R127,
R153, R180, R181) -/
def Obligations.TripCompletionLeadsOn : Prop :=
  ∀ (s : State) (q : Phases), s.startUp = none → s.mech.operation = .trip → s.mech.tripStartQ = some q →
    s.seq.phase = .tripping → s.mech.position ≠ .jammed → s.mech.reading ≠ some false →
    let filter := s.cfg.switch.contactFilter
    levelNow s.mech.openInput filter s.mech.contactOpen = true →
    levelNow s.mech.closedInput filter s.mech.contactClosed = false →
    ∃ t, exec .tripCompletion s = .next (finish false s t) ∧
      Only [.mech, .alarms, .energy, .seq, .coord, .oc, .mail, .log, .radio] s t ∧
      t.mech =
        { s.mech with
          openInput := takenInput s.mech.openInput filter, closedInput := takenInput s.mech.closedInput filter
          contactOpen := true, contactClosed := false, position := .opened, lastClosed := false, operation := .none
          operationTimer := none, tripCoil := false, closeCoil := false, tripStartQ := none
          trips := min (s.mech.trips + 1) 4294967295
          wear := ⟨wearAfter s.mech.wear.a q.a, wearAfter s.mech.wear.b q.b, wearAfter s.mech.wear.c q.c⟩ } ∧
      (t.alarms.isPending .wearLimit = true ↔
        s.alarms.isPending .wearLimit = true ∨
          (let limit := s.cfg.switch.wearLimit
           0 < limit ∧ (limit ≤ t.mech.wear.a ∨ limit ≤ t.mech.wear.b ∨ limit ≤ t.mech.wear.c))) ∧
      (s.loader.defaulted = true ∨ (s.seq.causes.sectionalize = false ∧ s.seq.causes.isolate = false) →
        t.radio = s.radio) ∧
      (s.loader.defaulted = false → s.seq.causes.sectionalize = true ∨ s.seq.causes.isolate = true →
        let segments := s.cfg.identity
        let isolated := !s.seq.causes.sectionalize
        let notice : Notice :=
          { kind := .isolate
            payload :=
              [byte (roleCode segments.role * 64 + flag s.protective 32 + flag isolated 16),
                byte segments.sourceSegment, byte segments.loadSegment,
                byte (s.seq.eventNumber / 256), byte s.seq.eventNumber,
                byte (if isolated then segments.sourceSegment else segments.loadSegment),
                byte (if isolated then segments.loadSegment else 0)]
            made := 0, total := s.cfg.radio.repeats, seqNo := none, replaced := false, attempted := false }
        (s.radio.outbox.length < 8 →
          t.radio = { s.radio with outbox := insertNotice notice s.radio.outbox }) ∧
        (8 ≤ s.radio.outbox.length → (∀ n ∈ s.radio.outbox, n.kind ≠ .state) →
          t.radio = { s.radio with outboxOverflow := min (s.radio.outboxOverflow + 1) 65535 })) ∧
      (t.seq.phase, t.seq.reason) = afterTrip s ∧ t.seq.causes = TripCauses.none ∧ t.seq.hotMark = false ∧
      t.oc.unit = .quiet ∧ t.oc.offer = none ∧ t.oc.fast = Quad.zero ∧ t.oc.delayed = Quad.zero ∧
      t.energy.tripReady = s.energy.tripReady ∧ t.energy.tripCharger ≠ .firing ∧
      (t.seq.phase = .dead →
        t.seq.deadTimer = some (s.cfg.sequence.deadTimes.getD (s.seq.shot - 1) 0) ∧ t.log = s.log ∧
          t.seq.event = s.seq.event.map fun e => { e with shots := min (e.shots + 1) 255 }) ∧
      (t.seq.phase ≠ .dead → t.seq.event = none ∧ t.seq.deadTimer = none ∧
        ∀ e, s.seq.event = some e → ∃ r, t.log.records = (r :: s.log.records).take 32 ∧ r.number = e.number ∧
          r.shots = min (e.shots + 1) 255 ∧ r.peak = s.oc.eventSummary.peak)

/-- A trip at the trip limit, a close at the close limit, and a DISAGREE at rest for 510 ms each leave the position
JAMMED, both coils released, no operation, no held trip, the sequence in LOCKOUT with reason MECHANISM, no cause kept,
the Overcurrent Unit QUIET without an offer, the open event ended LOCKOUT MECHANISM, and MECHANISM FAULT and LOCKOUT
pending, and touch nothing else; counters and wear stay. (R49, R66, R68, R69, R72) -/
def Obligations.FailedOperationJams : Prop :=
  ∀ (s : State) (elapsed : Nat), s.startUp = none →
    (s.mech.operation = .trip → s.mech.operationTimer = some elapsed → s.cfg.switch.tripLimit ≤ elapsed →
      ∃ t, exec .tripFailure s = .next (finish false s t) ∧ WentJammed s t) ∧
    (s.mech.operation = .close → s.mech.operationTimer = some elapsed → s.cfg.switch.closeLimit ≤ elapsed →
      ∃ t, exec .closeFailure s = .next (finish false s t) ∧ WentJammed s t) ∧
    (s.mech.operation = .none → s.mech.position = .disagree → s.mech.disagreeTimer = some elapsed → 510 ≤ elapsed →
      ∃ t, exec .disagreeTimerExpiry s = .next (finish false s t) ∧ WentJammed s t)

/-- A close whose contacts have settled at CLOSED completes in RECLOSING: the coil is released, the position CLOSED
and a close counted. With no held trip the sequence enters RECLAIM with the reclaim time loaded: a reclose advances
the shot and keeps the lockout reason, any other close sets the shot to the plan's last and clears reason and detail,
and the offer's new event mark says that no event is open. With a held trip the trip starts at once in TRIPPING with
the held causes, the Q of the last block published as its trip-start Q and the Overcurrent Unit DEMANDED, and no offer
is given; the shot, reason and detail move as without one and an open event goes on. That the contacts' filters are
state is log entry 9. (R53, R65, R69, R71, R75, R67) -/
def Obligations.CloseCompletionReclaimsOrTrips : Prop :=
  ∀ s : State, s.startUp = none → s.mech.operation = .close → s.seq.phase = .reclosing → s.mech.position ≠ .jammed →
    s.mech.reading ≠ some true →
    let filter := s.cfg.switch.contactFilter
    levelNow s.mech.openInput filter s.mech.contactOpen = false →
    levelNow s.mech.closedInput filter s.mech.contactClosed = true →
    (s.mech.heldTrip = false →
      ∃ t, exec .closeCompletion s = .next (finish false s t) ∧
        Only [.mech, .energy, .seq, .coord, .oc] s t ∧
        t.mech =
          { s.mech with
            openInput := takenInput s.mech.openInput filter, closedInput := takenInput s.mech.closedInput filter
            contactOpen := false, contactClosed := true, position := .closed, lastClosed := true, operation := .none
            operationTimer := none, tripCoil := false, closeCoil := false, tripStartQ := none
            closes := min (s.mech.closes + 1) 4294967295 } ∧
        t.seq.phase = .reclaim ∧ t.seq.reclaimTimer = some (s.cfg.sequence.reclaim * 1000) ∧
        t.seq.event = s.seq.event ∧ t.seq.recloseInFlight = false ∧
        (s.seq.recloseInFlight = true → t.seq.shot = s.seq.shot + 1 ∧ t.seq.reason = s.seq.reason) ∧
        (s.seq.recloseInFlight = false →
          t.seq.shot = s.planShots ∧ t.seq.reason = none ∧ t.seq.detail = none) ∧
        t.oc.offer = some (offerNow s t.seq.shot s.seq.event.isNone)) ∧
    (s.mech.heldTrip = true →
      ∃ t, exec .closeCompletion s = .next (finish false s t) ∧
        t.mech =
          { s.mech with
            openInput := takenInput s.mech.openInput filter, closedInput := takenInput s.mech.closedInput filter
            contactOpen := false, contactClosed := true, position := .closed, lastClosed := true, operation := .trip
            operationTimer := some 0, disagreeTimer := none, tripCoil := true, closeCoil := false, heldTrip := false
            tripStartQ := some (lastPublished s)
            closes := min (s.mech.closes + 1) 4294967295 } ∧
        t.seq.phase = .tripping ∧ t.seq.causes = s.seq.heldCauses ∧ t.seq.heldCauses = TripCauses.none ∧
        t.seq.hotMark = s.seq.hotLine ∧ t.oc.unit = .demanded ∧ t.oc.offer = s.oc.offer ∧
        t.seq.event = s.seq.event ∧ t.seq.recloseInFlight = false ∧
        (s.seq.recloseInFlight = true → t.seq.shot = s.seq.shot + 1 ∧ t.seq.reason = s.seq.reason) ∧
        (s.seq.recloseInFlight = false →
          t.seq.shot = s.planShots ∧ t.seq.reason = none ∧ t.seq.detail = none) ∧
        t.energy.tripReady = false ∧ t.energy.tripFired = 2 ∧ t.battery.test ≠ .running)

/-- Contact levels that have not held for the contact filter time only move the filters: a level away from the one
taken has its filter stand at the ms for which it has stood without interruption (less than the filter has run, when
the level was interrupted), and one that returns stops it. A level that had held before the one now there began to
stand is taken first, as by a command of the levels seen before. Where one level has held and the other input's has
not, the one is taken and acted on as by a command with the other input at the level taken of it, and the other's
filter alone moves. With no operation in flight and no JAMMED position, an open taken in a closed sequence state makes
the position OPEN, counts a trip without wear, and enters LOCKOUT HANDLE with the event ended; a close taken in an
open state makes it CLOSED, counts a close and enters RECLAIM at the plan's last shot, ending an event open in DEAD or
RECHARGE WAIT; an open taken in an open state counts a trip and leaves the sequence as it is; a reading that returns
to the last agreed position counts nothing; levels that come to disagree, both made or both open, give DISAGREE with
its timer running. With the position JAMMED, and where the reading stays as it is, only the levels are taken. With an
operation in flight the position follows the reading, no timer starts and nothing is reported, but OPEN in a trip and
CLOSED in a close are that operation's completion, as by its own command. That the commands bring the raw levels with
the time for which they have stood there is log entry 9. (R65, R66, R68, R69, R72, R74, R75, R49) -/
def Obligations.UnexpectedMoveIsReported : Prop :=
  ∀ (s : State) (openMade closedMade : Bool) (openHeld closedHeld : Nat), s.startUp = none →
    let filter := s.cfg.switch.contactFilter
    let m := s.mech
    let seen : Mech :=
      { m with
        openInput := ⟨openMade, none⟩, closedInput := ⟨closedMade, none⟩, contactOpen := openMade
        contactClosed := closedMade }
    (NotYet m.openInput openMade openHeld filter m.contactOpen →
      NotYet m.closedInput closedMade closedHeld filter m.contactClosed →
      exec (.contactReadingChange openMade openHeld closedMade closedHeld) s =
        .next (finish false s
          { s with
            mech :=
              { m with
                openInput := seenInput m.openInput openMade openHeld m.contactOpen
                closedInput := seenInput m.closedInput closedMade closedHeld m.contactClosed } })) ∧
    (
      let openMissed := StillToTake m.openInput openHeld filter m.contactOpen
      let closedMissed := StillToTake m.closedInput closedHeld filter m.contactClosed
      0 < filter → openMissed ∨ closedMissed → openMissed ∨ Stands m.openInput openMade openHeld m.contactOpen →
      closedMissed ∨ Stands m.closedInput closedMade closedHeld m.contactClosed →
      ∃ t,
        exec
            (.contactReadingChange m.openInput.level m.openInput.stood m.closedInput.level m.closedInput.stood)
            s = .next t ∧
        (openMissed → t.mech.contactOpen = m.openInput.level) ∧
        (closedMissed → t.mech.contactClosed = m.closedInput.level) ∧
        exec (.contactReadingChange openMade openHeld closedMade closedHeld) s =
          exec (.contactReadingChange openMade openHeld closedMade closedHeld) t) ∧
    (Settled m.openInput openMade openHeld filter m.contactOpen →
      NotYet m.closedInput closedMade closedHeld filter m.contactClosed →
      ∃ t, exec (.contactReadingChange openMade openHeld m.contactClosed closedHeld) s = .next t ∧
        exec (.contactReadingChange openMade openHeld closedMade closedHeld) s =
          .next
            { t with
              mech := { t.mech with closedInput := seenInput m.closedInput closedMade closedHeld m.contactClosed } }) ∧
    (NotYet m.openInput openMade openHeld filter m.contactOpen →
      Settled m.closedInput closedMade closedHeld filter m.contactClosed →
      ∃ t, exec (.contactReadingChange m.contactOpen openHeld closedMade closedHeld) s = .next t ∧
        exec (.contactReadingChange openMade openHeld closedMade closedHeld) s =
          .next
            { t with
              mech := { t.mech with openInput := seenInput m.openInput openMade openHeld m.contactOpen } }) ∧
    (Settled m.openInput openMade openHeld filter m.contactOpen →
      Settled m.closedInput closedMade closedHeld filter m.contactClosed → m.operation = .none →
      m.position ≠ .jammed →
      (openMade = true → closedMade = false → m.lastClosed = true → m.reading ≠ some false →
        s.seq.phase.isClosed = true →
        ∃ t, exec (.contactReadingChange openMade openHeld closedMade closedHeld) s = .next (finish false s t) ∧
          t.mech =
            { seen with
              position := .opened, lastClosed := false, disagreeTimer := none
              trips := min (m.trips + 1) 4294967295 } ∧
          t.seq.phase = .lockout ∧ t.seq.reason = some .handle ∧ eventEnded s t .lockout (some .handle) ∧
          t.alarms.isPending .lockout = true) ∧
      (openMade = false → closedMade = true → m.lastClosed = false → m.reading ≠ some true →
        s.seq.phase.isOpen = true →
        ∃ t, exec (.contactReadingChange openMade openHeld closedMade closedHeld) s = .next (finish false s t) ∧
          t.mech =
            { seen with
              position := .closed, lastClosed := true, disagreeTimer := none
              closes := min (m.closes + 1) 4294967295 } ∧
          t.seq.phase = .reclaim ∧ t.seq.shot = s.planShots ∧
          t.seq.reason = none ∧ t.seq.reclaimTimer = some (s.cfg.sequence.reclaim * 1000) ∧
          (s.seq.phase = .dead ∨ s.seq.phase = .rechargeWait → eventEnded s t .lockout (some .handle))) ∧
      (openMade = true → closedMade = false → m.lastClosed = true → m.reading ≠ some false →
        s.seq.phase.isOpen = true →
        exec (.contactReadingChange openMade openHeld closedMade closedHeld) s =
          .next (finish false s
            { s with
              mech :=
                { seen with
                  position := .opened, lastClosed := false, disagreeTimer := none
                  trips := min (m.trips + 1) 4294967295 } })) ∧
      (openMade ≠ closedMade → m.lastClosed = closedMade → m.reading ≠ some closedMade →
        exec (.contactReadingChange openMade openHeld closedMade closedHeld) s =
          .next (finish false s
            { s with
              mech :=
                { seen with position := if closedMade then .closed else .opened, disagreeTimer := none } })) ∧
      (openMade = closedMade → m.contactOpen ≠ m.contactClosed →
        exec (.contactReadingChange openMade openHeld closedMade closedHeld) s =
          .next (finish false s
            { s with
              mech := { seen with position := .disagree, disagreeTimer := some (m.disagreeTimer.getD 0) } }))) ∧
    (Settled m.openInput openMade openHeld filter m.contactOpen →
      Settled m.closedInput closedMade closedHeld filter m.contactClosed →
      (m.position = .jammed ∨ (openMade = m.contactOpen ∧ closedMade = m.contactClosed) ∨
          (openMade = closedMade ∧ m.contactOpen = m.contactClosed) →
        exec (.contactReadingChange openMade openHeld closedMade closedHeld) s =
          .next (finish false s { s with mech := seen })) ∧
      (m.position ≠ .jammed → m.operation ≠ .none → openMade ≠ m.contactOpen ∨ closedMade ≠ m.contactClosed →
        (openMade = closedMade → m.contactOpen ≠ m.contactClosed →
          exec (.contactReadingChange openMade openHeld closedMade closedHeld) s =
            .next (finish false s { s with mech := { seen with position := .disagree } })) ∧
        (openMade ≠ closedMade → closedMade = decide (m.operation = .trip) →
          exec (.contactReadingChange openMade openHeld closedMade closedHeld) s =
            .next (finish false s
              { s with
                mech :=
                  { seen with
                    position := if closedMade then .closed else .opened, lastClosed := closedMade } })) ∧
        (openMade ≠ closedMade → closedMade = decide (m.operation = .close) →
          exec (.contactReadingChange openMade openHeld closedMade closedHeld) s =
            exec (if m.operation = .trip then .tripCompletion else .closeCompletion)
              { s with
                mech :=
                  { m with
                    openInput := seenInput m.openInput openMade openHeld m.contactOpen
                    closedInput := seenInput m.closedInput closedMade closedHeld m.contactClosed } })))

/-- For every step of every state: if the close coil is driven after it and was not before, then all six checks of the
Close Gate held in the state before and the position was OPEN; and if TRIP READY or CLOSE READY is set after it and
was clear before, the command taken was AUX_UPDATE. (R69, R78, R79, R86) -/
def Obligations.GateGuardsCloseCoilAndReadiness : Prop :=
  (∀ s t : State, step s = .next t → s.mech.closeCoil = false → t.mech.closeCoil = true →
     GatePasses s ∧ s.mech.position = .opened) ∧
  (∀ s t : State, step s = .next t →
     (s.energy.tripReady = false ∧ t.energy.tripReady = true ∨
       s.energy.closeReady = false ∧ t.energy.closeReady = true) →
     s.pending.head? = some .auxUpdate)

/-- An aux update makes the aux state VALID, restarts the aux timer, takes both bank voltages, lowers each post-fire
count that is above 0, sets each readiness flag exactly when its count has then run out and its voltage is at or above
the ready threshold, and puts each charger in its first forced state (trip: FIRING, UNPOWERED; close: FIRING, HELD OFF),
or else moves it between its marks, a charger that was forced leaving for CHARGING or IDLE by count and full mark. An
aux timer at 2,000 ms makes the aux state EXPIRED, stops the timer, clears both flags, keeps voltages and counts, and
leaves each charger FIRING, UNPOWERED or HELD OFF where that holds and WAITING otherwise. That an aux update waiting at
a measurement loss acts while LOST too is the model's choice (log entry 51). (R83, R85, R86, R89, R90, R91) -/
def Obligations.AuxUpdatesAndTimeoutSetReadiness : Prop :=
  (∀ (s : State) (p : Publication) (g : AuxGroup) (rest : List Publication), s.startUp = none →
     s.mail.energy = p :: rest → p.auxNew = true → p.aux = some g →
     let marks := s.cfg.energy
     ∃ t, exec .auxUpdate s = .next (finish false s t) ∧ Only [.mail, .energy] s t ∧
       t.mail = { s.mail with energy := rest } ∧ t.energy.aux = .valid ∧ t.energy.auxTimer = some 0 ∧
       t.energy.vtrip = g.vtrip ∧ t.energy.vclose = g.vclose ∧
       t.energy.tripFired = s.energy.tripFired - 1 ∧ t.energy.closeFired = s.energy.closeFired - 1 ∧
       (t.energy.tripReady = true ↔ s.energy.tripFired ≤ 1 ∧ marks.tripReady ≤ g.vtrip) ∧
       (t.energy.closeReady = true ↔ s.energy.closeFired ≤ 1 ∧ marks.closeReady ≤ g.vclose) ∧
       t.energy.supply = s.energy.supply ∧ t.energy.supplyInput = s.energy.supplyInput ∧
       t.energy.expiries = s.energy.expiries ∧
       t.energy.tripCharger =
         (if s.mech.tripCoil = true then .firing
          else if s.energy.supply = false ∧ s.battery.grade = .absent then .unpowered
          else capAfter s.energy.tripCharger s.energy.tripFired g.vtrip marks.tripLow marks.tripFull) ∧
       t.energy.closeCharger =
         (if s.mech.closeCoil = true then .firing
          else if s.energy.supply = false ∧
              (s.battery.grade = .critical ∨ s.battery.grade = .failed ∨ s.battery.grade = .absent) then .heldOff
          else capAfter s.energy.closeCharger s.energy.closeFired g.vclose marks.closeLow marks.closeFull)) ∧
  (∀ (s : State) (elapsed : Nat), s.startUp = none → s.energy.aux = .valid → s.energy.auxTimer = some elapsed →
     2000 ≤ elapsed →
     ∃ t, exec .auxTimeout s = .next (finish false s t) ∧ Only [.energy] s t ∧ t.energy.aux = .expired ∧
       t.energy.auxTimer = none ∧ t.energy.tripReady = false ∧ t.energy.closeReady = false ∧
       t.energy.vtrip = s.energy.vtrip ∧ t.energy.vclose = s.energy.vclose ∧ t.energy.supply = s.energy.supply ∧
       t.energy.tripFired = s.energy.tripFired ∧ t.energy.closeFired = s.energy.closeFired ∧
       t.energy.tripCharger =
         (if s.mech.tripCoil = true then .firing
          else if s.energy.supply = false ∧ s.battery.grade = .absent then .unpowered
          else .waiting) ∧
       t.energy.closeCharger =
         (if s.mech.closeCoil = true then .firing
          else if s.energy.supply = false ∧
              (s.battery.grade = .critical ∨ s.battery.grade = .failed ∨ s.battery.grade = .absent) then .heldOff
          else .waiting))

/-- For every step of every state other than a power-on, the counter increments, saturating at 65,535, exactly when
the aux state is EXPIRED after it and was not before, so that NONE to VALID does not count. Power-on clears it, a
RESET pin reset and (as a step of chip select release) a RESTART keep it, and the COUNTERS area reads it. (R94) -/
def Obligations.AuxExpiriesCountEntriesToExpired : Prop :=
  (∀ s t : State, step s = .next t → s.pending.head? ≠ some .powerOn →
    t.energy.expiries =
      if t.energy.aux = .expired ∧ s.energy.aux ≠ .expired then min (s.energy.expiries + 1) 65535
      else s.energy.expiries) ∧
  (∀ s : State, ∃ t, exec .powerOn s = .next t ∧ t.energy.expiries = 0) ∧
  (∀ s : State, ∃ t, exec .resetPin s = .next t ∧ t.energy.expiries = s.energy.expiries) ∧
  (∀ s : State, s.startUp = none → s.port.transaction = .idle →
    ∃ t response, exec (.countersRead 0#8) s = .next t ∧ t.port.transaction = .taken response none false ∧
      response.getD 7 0 = byte (s.energy.expiries / 256) ∧ response.getD 8 0 = byte s.energy.expiries)

/-- A supply level that differs and has stood for 100 ms without interruption, by the ms of the command, is taken and
stops the filter: the power mode becomes that of R111, the grade, the charge and the readiness flags stay, the close
charger is HELD OFF when the supply goes away with the grade CRITICAL and the close coil is not driven, a HELD OFF one
enters CHARGING or IDLE when the supply returns with the aux state VALID, and the battery charger is OFF when the supply
goes away and no test runs. A change of the mode powers a sleeping receiver, restarts or stops its duty cycle by the
mode, fills the survival allowance and starts the hour timer at an entry to SURVIVAL and stops that timer in any other
mode, and restarts a heartbeat time at or beyond the new limit. A level that has not held, or has returned before the
other had held, only moves the filter: it stands at the ms of the command (less than it has run, when the level was
interrupted), and a return stops it. A level that had held before the one now there began to stand is taken first, as by
a command of that level. That the command brings the raw level with the time for which it has stood there is log entry
9. That the survival allowance keeps its value when SURVIVAL is left, and outside it, is the model's choice (log entry
12). (R84, R85, R89, R91, R97, R111, R124, R131, R132) -/
def Obligations.AuxSupplyChangeSetsPowerMode : Prop :=
  ∀ (s : State) (held : Nat), s.startUp = none →
    (HasHeld s.energy.supplyInput held 100 s.energy.supply →
      ∃ t, exec (.auxSupplyChange (!s.energy.supply) held) s = .next (finish false s t) ∧
        Only [.energy, .battery, .radio] s t ∧ t.energy.supply = !s.energy.supply ∧
        t.energy.supplyInput = ⟨!s.energy.supply, none⟩ ∧
        t.battery.mode = powerModeTable (!s.energy.supply) s.battery.grade ∧
        t.battery.grade = s.battery.grade ∧ t.battery.cq = s.battery.cq ∧ t.energy.tripReady = s.energy.tripReady ∧
        t.energy.closeReady = s.energy.closeReady ∧
        (s.energy.supply = true ∧ s.battery.grade = .critical ∧ s.mech.closeCoil = false →
          t.energy.closeCharger = .heldOff) ∧
        (s.energy.supply = false ∧ s.energy.closeCharger = .heldOff ∧ s.mech.closeCoil = false ∧
            s.energy.aux = .valid →
          t.energy.closeCharger =
            if 0 < s.energy.closeFired ∨ s.energy.vclose < s.cfg.energy.closeFull then .charging else .idle) ∧
        (s.energy.supply = true ∧ s.battery.test ≠ .running → t.battery.charger = .off) ∧
        t.radio = lineAtMode s t.battery.mode ∧
        (t.battery.mode ≠ s.battery.mode → ReceiverAtMode t (finish false s t))) ∧
    (∀ present, NotYet s.energy.supplyInput present held 100 s.energy.supply →
      exec (.auxSupplyChange present held) s =
        .next (finish false s
          { s with
            energy :=
              { s.energy with supplyInput := seenInput s.energy.supplyInput present held s.energy.supply } })) ∧
    (StillToTake s.energy.supplyInput held 100 s.energy.supply →
      ∃ t, exec (.auxSupplyChange (!s.energy.supply) s.energy.supplyInput.stood) s = .next t ∧
        t.energy.supply = !s.energy.supply ∧ t.energy.supplyInput = ⟨!s.energy.supply, none⟩ ∧
        ∀ present, exec (.auxSupplyChange present held) s = exec (.auxSupplyChange present held) t)

/-- With no publication waiting CHARGE_COUNT changes nothing, which is the model's choice (log entry 2). Every
publication that it takes completes and becomes the held values. With an aux group Cq moves by its Ibat (times the
efficiency over 256 when charging, floored) within 0..Cfull and SOC is worked out, but for FLOAT by taper, which ties Cq
to Cfull, and an entry to ABSENT, which unties it at half; without one charge and grade stay. An aux update sets both
setpoints within Vmin..Vmax and the hot and cold conditions by their hysteresis. With no load test, in every grade and
load hold, the charger is then in the first forced state of R97, or moves by the cycle of R98: BULK to ABSORB at the
setpoint, ABSORB to FLOAT below the taper current, FLOAT to BULK below the rebulk voltage, and from a forced state to
BULK, with the absorb timer started on entry to ABSORB and kept there alone. Without an aux update the charger stays.
That a charger leaving a forced state moves no further at that update, and the order of the works of one publication,
are log entry 19. That a publication waiting at a measurement loss acts while LOST too, moving Cq and SOC there (log
entry 51), that the start conditions of a PENDING test read the presence at the check (log entry 30), and that BULK
becomes ABSORB by the setpoint of the same update (log entry 54), are the model's choices. (R97, R98, R99, R100, R101,
R102) -/
def Obligations.ChargeCountAndChargerFollowPublications : Prop :=
  (∀ s : State, s.startUp = none → s.mail.battery = [] → exec .chargeCount s = .next (finish false s s)) ∧
  (∀ (s : State) (p : Publication) (rest : List Publication), s.startUp = none → s.mail.battery = p :: rest →
     ∃ t, exec .chargeCount s = .next (finish false s t) ∧ Only [.mail, .battery, .energy, .alarms, .radio] s t ∧
       t.mail = { s.mail with battery := rest } ∧ t.battery.held = p.aux ∧
       (p.aux = none →
         t.battery.cq = s.battery.cq ∧ t.battery.soc = s.battery.soc ∧
           t.battery.uncalibrated = s.battery.uncalibrated ∧ t.battery.grade = s.battery.grade) ∧
       (∀ g, p.aux = some g → (s.battery.test = .running → s.battery.charger = .test) →
         (s.battery.grade ≠ .absent → t.battery.grade = .absent →
           t.battery.cq = s.derived.cfull / 2 ∧ t.battery.uncalibrated = true) ∧
         (s.battery.grade = .absent ∨ t.battery.grade ≠ .absent →
           (Tapers s p g →
             t.battery.cq = s.derived.cfull ∧ t.battery.soc = 10000 ∧ t.battery.uncalibrated = false) ∧
           (¬ Tapers s p g →
             t.battery.cq = chargeMoved s g ∧ t.battery.soc = t.battery.cq * 10000 / s.derived.cfull ∧
               t.battery.uncalibrated = s.battery.uncalibrated))) ∧
       (∀ g, p.aux = some g → p.auxNew = true →
         let b := s.cfg.battery
         t.battery.seen = true ∧ t.battery.absorbSet = setpointFor b b.absorbNominal g ∧
           t.battery.floatSet = setpointFor b b.floatNominal g ∧ t.battery.hot = hotAfter s g ∧
           t.battery.cold = coldAfter s g ∧
           (NoTest s g →
             (s.battery.grade = .absent ∨ s.battery.grade = .failed → s.battery.charger.forced = true) →
             t.battery.charger =
               (if s.energy.supply = false then .off
                else if t.battery.grade = .absent ∨ t.battery.grade = .failed then .fault
                else if hotAfter s g = true then .hot
                else if coldAfter s g = true then .cold
                else cycleAfter s g) ∧
             t.battery.absorbTimer =
               (if t.battery.charger = .absorb then
                  (if s.battery.charger = .absorb then s.battery.absorbTimer else some 0)
                else none))) ∧
       (∀ g, p.aux = some g → p.auxNew = false → NoTest s g → t.battery.grade = s.battery.grade →
         t.battery.charger = s.battery.charger ∧ t.battery.absorbTimer = s.battery.absorbTimer ∧
           t.battery.absorbSet = s.battery.absorbSet ∧ t.battery.floatSet = s.battery.floatSet ∧
           t.battery.hot = s.battery.hot ∧ t.battery.cold = s.battery.cold ∧ t.battery.seen = s.battery.seen))

/-- An absorb timer at its limit enters FLOAT without calibration; a test PENDING for 24 hours ends SKIPPED, with no
figures (log entry 39) and the interval timer restarted; a settle timer at the settle time, with grading not frozen,
puts the settle candidate in effect and works out the power mode. A publication with an aux group, no test and a load
hold count of at most 1 counts the ABSENT run and works out the candidate from the counted charge: the first one after a
start is taken quietly; a worse one at once with BATTERY raised; a better one starts the settle timer and keeps the
worst seen; an equal one stops it. A change of the power mode acts on the radio line: receiver and duty cycle, survival
allowance and hour timer, and a heartbeat time beyond the new limit. Without a group, above that hold count, or while a
test runs, nothing is graded. That the candidate is worked out after the same publication's charge, test start and
charger is log entry 19; that the count is lowered only while no test runs is log entry 38. That the survival allowance
keeps its value when SURVIVAL is left, and outside it (log entry 12), that the start conditions of a PENDING test read
the presence at the check (log entry 30), and that a publication waiting at a measurement loss is graded while LOST too
(log entry 51), are the model's choices. (R98, R103, R104, R108, R109, R110, R111, R113, R124, R131, R132) -/
def Obligations.BatteryTimersTakeEffect : Prop :=
  (∀ (s : State) (elapsed : Nat), s.startUp = none →
     (s.battery.charger = .absorb → s.battery.absorbTimer = some elapsed →
       s.cfg.battery.absorbHours * 3600000 ≤ elapsed →
       exec .absorbTimeLimit s =
         .next (finish false s { s with battery := { s.battery with charger := .float, absorbTimer := none } })) ∧
     (s.battery.test = .pending → s.battery.pendingTimer = some elapsed → 86400000 ≤ elapsed →
       exec .pendingLimit s =
         .next (finish false s
           { s with
             battery :=
               { s.battery with
                 test := .idle, durationTimer := none, pendingTimer := none
                 intervalTimer := if s.cfg.battery.testHours = 0 then none else some 0
                 last :=
                   { result := .skipped, v0 := none, v1 := none, i1 := none, r := none
                     time := s.clock.seconds } } }))) ∧
  (∀ (s : State) (elapsed : Nat) (g : BatteryGrade), s.startUp = none → s.battery.test ≠ .running →
     s.battery.loadHold = 0 → s.battery.settleTimer = some elapsed → s.cfg.battery.settle * 1000 ≤ elapsed →
     s.battery.settleCandidate = some g → g.code < s.battery.grade.code →
     ∃ t, exec .settleTimerExpiry s = .next (finish false s t) ∧ Only [.battery, .energy, .radio] s t ∧
       t.battery.grade = g ∧ t.battery.settleTimer = none ∧ t.battery.settleCandidate = none ∧
       t.battery.mode = powerModeTable s.energy.supply g ∧
       t.battery.cq = s.battery.cq ∧ t.battery.judged = s.battery.judged ∧
       t.radio = lineAtMode s t.battery.mode ∧
       (t.battery.mode ≠ s.battery.mode → ReceiverAtMode t (finish false s t))) ∧
  (∀ (s : State) (p : Publication) (rest : List Publication), s.startUp = none → s.mail.battery = p :: rest →
     ∃ t, exec .chargeCount s = .next (finish false s t) ∧ t.radio = lineAtMode s t.battery.mode ∧
       (t.battery.mode ≠ s.battery.mode → ReceiverAtMode t (finish false s t)) ∧
       (∀ g, p.aux = some g → NoTest s g → s.battery.loadHold ≤ 1 →
         ∃ (uncalibrated : Bool) (soc : Nat),
           (Tapers s p g → uncalibrated = false ∧ soc = 10000) ∧
           (¬ Tapers s p g →
             uncalibrated = s.battery.uncalibrated ∧ soc = chargeMoved s g * 10000 / s.derived.cfull) ∧
           let run := if g.vbat < s.cfg.battery.absent then min 3 (s.battery.absentRun + 1) else 0
           let c := gradeTable s.cfg.battery run s.battery.judged uncalibrated soc g.vbat
           let stopped := t.battery.settleTimer = none ∧ t.battery.settleCandidate = none
           t.battery.absentRun = run ∧ t.battery.candidate = some c ∧ t.battery.loadHold = 0 ∧
           t.battery.provisional = false ∧
           (t.battery.grade ≠ s.battery.grade →
             t.battery.mode = powerModeTable s.energy.supply t.battery.grade ∧
               t.battery.judged = if t.battery.grade = .absent then .none else s.battery.judged) ∧
           (s.battery.provisional = true → t.battery.grade = c ∧ stopped ∧ t.alarms = s.alarms) ∧
           (s.battery.provisional = false →
             (s.battery.grade.code < c.code →
               t.battery.grade = c ∧ stopped ∧
                 t.alarms = { s.alarms with flags := s.alarms.flags ||| 32#12 }) ∧
             (c.code < s.battery.grade.code →
               t.battery.grade = s.battery.grade ∧ t.alarms = s.alarms ∧
                 t.battery.settleTimer = some (s.battery.settleTimer.getD 0) ∧
                 t.battery.settleCandidate = some (worstOf s.battery.settleCandidate c)) ∧
             (c = s.battery.grade → t.battery.grade = s.battery.grade ∧ stopped ∧ t.alarms = s.alarms))) ∧
       (s.battery.test = .running ∨ t.battery.test = .running ∨ p.aux = none ∨ 1 < s.battery.loadHold →
         t.battery.grade = s.battery.grade ∧ t.battery.candidate = s.battery.candidate ∧
           t.battery.absentRun = s.battery.absentRun ∧ t.battery.settleTimer = s.battery.settleTimer ∧
           t.battery.settleCandidate = s.battery.settleCandidate ∧ t.alarms = s.alarms) ∧
       (s.battery.test ≠ .running → t.battery.test ≠ .running → t.battery.loadHold = s.battery.loadHold - 1))

/-- At an expired interval or retry timer in test state IDLE: with every start condition of R104 the test is RUNNING
with V0 the held Vbat, the test load on, the charger in TEST and its command off; with some condition missing (a charger
neither in FLOAT nor in FAULT for a FAILED grade, a sequence state other than READY, LOCKOUT and STANDBY, an operation
in flight, a source not LIVE, TRIP READY clear, or no aux group held) it is PENDING with the pending timer started; in
both cases interval and retry timers stop. That the source presence is that of the Measurement Unit at the check is log
entry 30. (R103, R104, R105) -/
def Obligations.LoadTestStartsOrWaits : Prop :=
  (∀ s : State, s.testConditions = false ↔ TestMustWait s) ∧
  ∀ (s : State) (elapsed : Nat), s.startUp = none → s.battery.test = .idle →
    (s.battery.intervalTimer = some elapsed → s.cfg.battery.testHours * 3600000 ≤ elapsed →
      (∀ g, TestMayStart s g →
        ∃ t, exec .testIntervalExpiry s = .next (finish false s t) ∧ Only [.battery] s t ∧ testStarted s t g) ∧
      (TestMustWait s →
        exec .testIntervalExpiry s =
          .next (finish false s
            { s with
              battery :=
                { s.battery with
                  test := .pending, pendingTimer := some 0, intervalTimer := none, retryTimer := none } }))) ∧
    (s.battery.retryTimer = some elapsed → s.cfg.battery.retryMinutes * 60000 ≤ elapsed →
      (∀ g, TestMayStart s g →
        ∃ t, exec .retryExpiry s = .next (finish false s t) ∧ Only [.battery] s t ∧ testStarted s t g) ∧
      (TestMustWait s →
        exec .retryExpiry s =
          .next (finish false s
            { s with
              battery :=
                { s.battery with
                  test := .pending, pendingTimer := some 0, intervalTimer := none, retryTimer := none } })))

/-- At the expired duration of a RUNNING test with aux values held, the load goes off, the test is IDLE, the load hold
count is 2, and the last result holds V0, V1, I1, the time and R unless the result is LOAD FAULT. The result is the
first applying row of R106 for R = floor((V0 - V1) * 1000 / I1); PASS, MARGINAL and FAILED replace the judged result and
LOAD FAULT keeps it; FAILED makes the grade FAILED unless it is ABSENT (log entry 28); FAILED and LOAD FAULT raise TEST
FAILED. A RUNNING test is ABORTED at a publication with a pickup, a source that was LIVE and is not, or an aux update
below the abort floor, and goes on at any other; at a trip demand that puts or joins a trip; at a reclose passed by the
gate; and at a measurement loss with the source LIVE. An open from the panel, the port or a crew ask aborts it in a
closed state, in TRIPPING and in RECLOSING, and a close from them in LOCKOUT or STANDBY where the gate passes; a close
that the gate refuses, and an open in another state, leave it running. That the load hold count is 2 after the very
publication that aborts is the model's choice (log entry 38); that a request which drives no coil aborts too is log
entry 21. That the survival allowance keeps its value when SURVIVAL is left, and outside it (log entry 12), that the
buttons bring raw levels with the time for which they have stood there (log entry 9), and that a publication waiting at
a measurement loss is looked at while LOST too (log entry 51), are the model's choices. (R105, R106, R107, R109, R111,
R56, R57, R67, R69, R4, R12) -/
def Obligations.LoadTestIsJudged : Prop :=
  (∀ (s : State) (elapsed : Nat) (g : AuxGroup), s.startUp = none → s.battery.test = .running →
     s.battery.durationTimer = some elapsed → s.cfg.battery.duration * 1000 ≤ elapsed → s.battery.held = some g →
     let i1 := -g.ibat
     let r := if g.vbat < s.battery.v0 then (s.battery.v0 - g.vbat) * 1000 / i1.toNat else 0
     let result := resultOf s.cfg.battery g.vbat i1 r
     ∃ t, exec .testDurationExpiry s = .next (finish false s t) ∧ Only [.battery, .energy, .alarms, .radio] s t ∧
       t.battery.test = .idle ∧ t.battery.durationTimer = none ∧ t.battery.loadHold = 2 ∧ t.testLoadOn = false ∧
       t.battery.charger ≠ .test ∧
       t.battery.last =
         { result, v0 := some s.battery.v0, v1 := some g.vbat, i1 := some i1
           r := if result = .loadFault then none else some r, time := s.clock.seconds } ∧
       (result = .failed ∨ result = .loadFault → t.alarms.isPending .testFailed = true) ∧
       (result = .failed →
         t.battery.judged = .failed ∧ (s.battery.grade ≠ .absent → t.battery.grade = .failed)) ∧
       (result = .marginal → t.battery.judged = .marginal ∧ t.battery.grade = s.battery.grade) ∧
       (result = .pass → t.battery.judged = .pass ∧ t.alarms = s.alarms ∧ t.energy = s.energy) ∧
       (result = .loadFault → t.battery.judged = s.battery.judged ∧ t.battery.grade = s.battery.grade) ∧
       t.radio = lineAtMode s t.battery.mode ∧
       (t.battery.mode ≠ s.battery.mode → ReceiverAtMode t (finish false s t))) ∧
  (∀ (s : State) (p : Publication) (rest : List Publication), s.startUp = none → s.battery.test = .running →
     s.mail.battery = p :: rest →
     let aborts :=
       (s.pickedSet p).any = true ∨ (p.srcWas = .live ∧ p.src ≠ .live) ∨
         ∃ g, p.aux = some g ∧ p.auxNew = true ∧ g.vbat < s.cfg.battery.abortFloor
     ∃ t, exec .chargeCount s = .next (finish false s t) ∧ (aborts → TestAborted s t) ∧
       (¬ aborts →
         t.testLoadOn = true ∧ t.battery.v0 = s.battery.v0 ∧ t.battery.durationTimer = s.battery.durationTimer ∧
           t.battery.last = s.battery.last ∧ t.battery.grade = s.battery.grade ∧
           t.battery.loadHold = s.battery.loadHold)) ∧
  (∀ s : State, s.startUp = none → s.battery.test = .running →
     (∀ curve elements shot rest, s.mail.reports = .demand curve elements shot :: rest →
       s.seq.phase = .timing ∨ s.seq.phase = .tripping →
       ∃ t, exec .tripDemand s = .next (finish false s t) ∧ TestAborted s t) ∧
     (s.seq.phase = .dead → s.seq.deadTimer = some 0 → GatePasses s → s.mech.position = .opened →
       ∃ t, exec .deadTimeExpiry s = .next (finish false s t) ∧ CloseStarted s t true ∧ TestAborted s t) ∧
     (∀ elapsed, s.meas.state ≠ .lost → s.meas.gap = some elapsed → s.derived.gapLimit ≤ elapsed →
       s.meas.src.presence = .live →
       ∃ t, exec .gapTimerExpiry s = .next (finish false s t) ∧ t.meas.state = .lost ∧
         t.alarms.isPending .measurementLost = true ∧ TestAborted s t)) ∧
  (∀ (s : State) (c : Instr), s.startUp = none → s.battery.test = .running →
     (OpenCommand s c → s.seq.phase ∉ ([.dead, .rechargeWait, .lockout, .standby] : List SeqPhase) →
       ∃ t, exec c s = .next (finish false s t) ∧ TestAborted s t) ∧
     (CloseCommand s c → s.seq.phase = .lockout ∨ s.seq.phase = .standby →
       (GatePasses s → ∃ t, exec c s = .next (finish false s t) ∧ t.seq.phase ≠ s.seq.phase ∧ TestAborted s t) ∧
       (¬ GatePasses s →
         ∃ t, exec c s = .next (finish false s t) ∧ t.battery = s.battery ∧ t.testLoadOn = true)) ∧
     (OpenCommand s c → s.seq.phase ∈ ([.dead, .rechargeWait, .lockout, .standby] : List SeqPhase) →
       ∃ t, exec c s = .next (finish false s t) ∧ t.battery = s.battery ∧ t.testLoadOn = true))

/-- For every state in which, outside start-up, the power mode is that of R111 for the supply and grade and Cq is at
most Cfull, SOC is at most 10,000, the battery charger is OFF until the first aux update since the reset and in TEST
while a load test runs, the state after any step has the same property. (R101, R105, R111, R85, R97) -/
def Obligations.BatteryInvariantKept : Prop :=
  ∀ s t : State, BatteryInv s → step s = .next t → BatteryInv t

/-- In DEFER with the receiver on, a guard time of one slot enters BACKOFF; each slot time lowers the backoff count by
1; a carrier in BACKOFF returns to DEFER with the count kept; a carrier that goes starts the guard time and ends a
jam; and a jam timer at the busy limit, with CHANNEL JAMMED clear, sets CHANNEL JAMMED, counts it, raises the cause,
keeps the outbox and backoff, and sends an URGENT notice waiting in DEFER to BACKOFF. That the expiry does nothing
while CHANNEL JAMMED is set is the model's choice (log entry 52). (R114, R128, R130) -/
def Obligations.ChannelAccessCountsSlots : Prop :=
  ∀ s : State, s.startUp = none →
    (∀ e, s.radio.tx = .defer → s.radio.rx ≠ .sleep → s.radio.guardTimer = some e → s.cfg.radio.slot ≤ e →
      exec .guardTimeExpiry s =
        .next (finish false s { s with radio := { s.radio with tx := .backoff, timer := 0 } })) ∧
    (∀ n, s.radio.tx = .backoff → s.radio.backoff = n + 1 → s.cfg.radio.slot ≤ s.radio.timer →
      exec .slotTimeExpiry s =
        .next (finish false s { s with radio := { s.radio with backoff := n, timer := 0 } })) ∧
    (s.radio.tx = .backoff → s.radio.rx ≠ .sleep → s.radio.carrier = false → s.radio.jammed = false →
      exec (.carrierDetectChange true) s =
        .next (finish false s { s with radio := { s.radio with carrier := true, guardTimer := none, tx := .defer } })) ∧
    (s.radio.rx = .listen → s.radio.txKey = false → s.radio.carrier = true →
      exec (.carrierDetectChange false) s =
        .next (finish false s
          { s with
            radio := { s.radio with carrier := false, guardTimer := some 0, jamTimer := 0, jammed := false } })) ∧
    (s.radio.rx ≠ .sleep → s.radio.txKey = false → s.radio.carrier = true → s.radio.jammed = false →
      s.cfg.radio.busy * 1000 ≤ s.radio.jamTimer →
      ∃ t, exec .jamTimerExpiry s = .next (finish false s t) ∧ Only [.radio, .alarms] s t ∧
        t.radio.jammed = true ∧ t.radio.channelJams = min (s.radio.channelJams + 1) 65535 ∧
        t.radio.outbox = s.radio.outbox ∧ t.radio.backoff = s.radio.backoff ∧
        t.radio.tx = (if s.radio.tx = .defer ∧ s.radio.urgentInHand = true then .backoff else s.radio.tx) ∧
        t.alarms.flags = s.alarms.flags ||| 128#12 ∧ t.alarms.enables = s.alarms.enables) ∧
    (s.radio.jammed = true → exec .jamTimerExpiry s = .next (finish false s s))

/-- A backoff count of 0 with no window about to close turns TX key on, captures the payload, chooses the wake
preamble exactly when some FRESH peer sleeps and 32 otherwise, takes the next sequence number at a first transmission
and keeps the notice's own at a repeat, and charges the survival allowance for STATE, TAG and RECALL in SURVIVAL
alone. The expired key-up delay sends kind, address, sequence number, length, flags (RESTARTED, ECONOMY), payload and
the CRC-16 of them all. In SENDING, TX data is the bit that the time on the air has reached at the bit rate: the
preamble alternates from 1, then the sync word 0xE25A and the frame's bytes follow, high bit first, and after the last
bit and outside SENDING the line is low. (R114, R115, R116, R117, R127, R128, R129, R131, 7.2) -/
def Obligations.KeyUpBuildsFrame : Prop :=
  (∀ (s : State) (n : Notice), s.startUp = none → s.radio.current = some n →
     (s.radio.tx = .backoff → s.radio.backoff = 0 → s.radio.windowSyncs < 32 →
       ∃ t, exec .backoffCountZero s = .next (finish false s t) ∧ Only [.radio] s t ∧ t.txKeyOn = true ∧
         t.radio.tx = .keyup ∧ t.radio.timer = 0 ∧ t.radio.rx = .listen ∧ t.radio.onAir = n.payload ∧
         t.radio.preamble =
           (if ∃ p ∈ s.peers.held, p.freshness = .fresh ∧ p.isSleeping = true then s.cfg.radio.wake else 32) ∧
         (n.seqNo = none →
           t.radio.nextSeq = (s.radio.nextSeq + 1) % 256 ∧
             t.radio.current = some { n with seqNo := some s.radio.nextSeq }) ∧
         (∀ k, n.seqNo = some k → t.radio.nextSeq = s.radio.nextSeq ∧ t.radio.outbox = s.radio.outbox) ∧
         t.radio.allowance =
           (if s.battery.mode = .survival ∧ (n.kind = .state ∨ n.kind = .tag ∨ n.kind = .recall) then
              s.radio.allowance - 1
            else s.radio.allowance)) ∧
     (∀ k, s.radio.tx = .keyup → s.cfg.radio.keyUp ≤ s.radio.timer → n.seqNo = some k →
       let flags := (if s.tags.unconfirmed then 128 else 0) + (if s.battery.mode = .full then 0 else 64)
       let body :=
         [byte n.kind.code] ++ be16 s.cfg.identity.address ++ [byte k, byte s.radio.onAir.length, byte flags] ++
           s.radio.onAir
       exec .keyUpDelayExpiry s =
         .next (finish false s
           { s with
             radio :=
               { s.radio with tx := .sending, airTicks := 0, frame := body ++ be16 (crc16 body).toNat } }))) ∧
  (∀ s : State,
     let k := s.radio.airTicks * s.cfg.radio.bitRate / 12000
     let start := s.radio.preamble + 16
     (s.radio.tx ≠ .sending → s.txData = false) ∧
     (s.radio.tx = .sending →
       (k < s.radio.preamble → s.txData = decide (k % 2 = 0)) ∧
       (∀ j < 16, k = s.radio.preamble + j → s.txData = (0xE25A#16).getLsbD (15 - j)) ∧
       (∀ j i b, s.radio.frame[j]? = some b → i < 8 → k = start + 8 * j + i → s.txData = b.getLsbD (7 - i)) ∧
       (start + 8 * s.radio.frame.length ≤ k → s.txData = false)))

/-- A frame whose bits have been on the air enters TAIL and is counted; at the tail's end TX key goes off, with no
carrier the guard time starts from 0, the jam timer restarts and CHANNEL JAMMED clears, and a notice with
transmissions left enters SPACING with one more made, a notice with none left leaves the outbox unless it carries the
replaced mark, which clears it and puts it back for a new service, and the end of a STATE restarts the heartbeat
timer. At the end of the spacing a new backoff count is drawn, 0..3 for URGENT and 8..23 for STATE, and the
transmitter goes to BACKOFF or DEFER by the guard time. The drawn number is a free value (log entry 3); that the guard
time counts anew at the end of the tail is the model's choice (log entry 50). (R115, R125, R127, R128, R129, R130,
R133) -/
def Obligations.TransmissionEndsService : Prop :=
  ∀ s : State, s.startUp = none →
    (s.radio.tx = .sending →
      (s.radio.preamble + 16 + 8 * s.radio.frame.length) * 12000 ≤ s.radio.airTicks * s.cfg.radio.bitRate →
      exec .frameSent s =
        .next (finish false s
          { s with
            radio :=
              { s.radio with
                tx := .tail, timer := 0, frame := [], framesSent := min (s.radio.framesSent + 1) 65535 } })) ∧
    (∀ n, s.radio.tx = .tail → s.cfg.radio.tail ≤ s.radio.timer → s.radio.current = some n →
      ∃ t, exec .tailExpiry s = .next (finish false s t) ∧ Only [.radio] s t ∧ t.txKeyOn = false ∧
        t.radio.guardTimer = (if s.radio.carrier then none else some 0) ∧
        t.radio.jamTimer = (if s.radio.carrier then s.radio.jamTimer else 0) ∧
        t.radio.jammed = (s.radio.carrier && s.radio.jammed) ∧
        (n.made + 1 < n.total →
          t.radio.tx = .spacing ∧ t.radio.timer = 0 ∧ t.radio.heartbeat = s.radio.heartbeat ∧
            t.radio.outbox = s.radio.outbox.map fun m => if m.attempted then { m with made := n.made + 1 } else m) ∧
        (n.total ≤ n.made + 1 →
          t.radio.tx = .idle ∧
            (∀ before after, n.replaced = false → s.radio.outbox = before ++ n :: after →
              (∀ m ∈ before ++ after, m.attempted = false) → t.radio.outbox = before ++ after) ∧
            (n.replaced = true →
              t.radio.outbox =
                s.radio.outbox.map fun m =>
                  if m.attempted then { m with replaced := false, made := 0, seqNo := none, attempted := false }
                  else m) ∧
            t.radio.heartbeat =
              (if n.kind = .state then s.radio.heartbeat.map fun _ => 0 else s.radio.heartbeat))) ∧
    (∀ n, s.radio.tx = .spacing → s.cfg.radio.spacing ≤ s.radio.timer → s.radio.current = some n →
      s.radio.rx ≠ .sleep →
      ∃ t, exec .repeatSpacingExpiry s = .next (finish false s t) ∧ Only [.radio] s t ∧
        t.radio.outbox = s.radio.outbox ∧ t.radio.draws = s.radio.draws + 1 ∧
        (n.kind ≠ .state → t.radio.backoff ≤ 3) ∧
        (n.kind = .state → within 8 23 t.radio.backoff) ∧
        (s.radio.jammed = false →
          (∀ e, s.radio.guardTimer = some e → s.cfg.radio.slot ≤ e → t.radio.tx = .backoff) ∧
            ((s.radio.guardTimer = none ∨ ∃ e, s.radio.guardTimer = some e ∧ e < s.cfg.radio.slot) →
              t.radio.tx = .defer)))

/-- A listen window that ends in LISTEN puts the receiver to SLEEP, and one that ends in FRAME waits for the frame; a
sleep window that ends powers the receiver into LISTEN; a full hour in SURVIVAL refills the allowance and restarts the
hour timer; and a heartbeat timer at the interval, times 1, 4 or 16 by the power mode, restarts and offers a STATE
outside DEFAULTED operation. (R118, R124, R131, R132) -/
def Obligations.ReceiverAndHourFollowTheirTimers : Prop :=
  ∀ (s : State) (elapsed : Nat), s.startUp = none →
    (s.radio.duty = .listening elapsed → s.cfg.radio.listen ≤ elapsed →
      (s.radio.rx = .listen →
        exec .listenWindowExpiry s =
          .next (finish false s
            { s with
              radio := { s.radio with rx := .sleep, duty := .sleeping 0, guardTimer := none, jamTimer := 0 } })) ∧
      (s.radio.rx = .frame →
        exec .listenWindowExpiry s =
          .next (finish false s { s with radio := { s.radio with duty := .ranOut } }))) ∧
    (s.radio.duty = .sleeping elapsed → s.cfg.radio.sleep ≤ elapsed → s.radio.rx = .sleep →
      ∃ t, exec .sleepWindowExpiry s = .next (finish false s t) ∧ Only [.radio] s t ∧ t.receiverPowered = true ∧
        t.radio.rx = .listen ∧ t.radio.duty = .listening 0 ∧ t.radio.jamTimer = 0 ∧
        t.radio.guardTimer = (if s.radio.carrier then none else some 0) ∧ t.radio.outbox = s.radio.outbox) ∧
    (s.battery.mode = .survival → s.radio.hourTimer = some elapsed → 3600000 ≤ elapsed →
      exec .hourTimerExpiry s =
        .next (finish false s
          { s with radio := { s.radio with allowance := s.cfg.radio.allowance, hourTimer := some 0 } })) ∧
    (s.loader.defaulted = false → s.radio.heartbeat = some elapsed →
      s.cfg.radio.heartbeat * 1000 *
          (match s.battery.mode with | .full => 1 | .economy => 4 | .survival => 16) ≤ elapsed →
      exec .heartbeatExpiry s =
        .next (finish true s { s with radio := { s.radio with heartbeat := some 0 } }))

/-- A bit received in LISTEN is shifted into the sync search, which becomes FRAME and counts in the link window
exactly when the last 16 bits equal 0xE25A; in other states none is looked at. A sync in LISTEN enters FRAME; that its
bits arrive whole is log entry 45. A bad frame (whose carrier drop is also the carrier's change, log entry 23), one
with a sender outside 1..4000, one of an unknown kind, and one with this station's own address (which raises ADDRESS
CONFLICT) are each counted in their own counter and touch only the radio line and the alarms; when the window has 32
detections it closes with the grade of its bad frames, and an entry to POOR raises LINK POOR. A frame of the other
kinds whose sequence number is in the sequence set of its sender's record, with no RESTARTED transition, is a
duplicate: it is counted and neither refreshes the record nor acts, its payload not looked at. (R115, R118, R119,
R120, R121, R122, R123, R127, R133) -/
def Obligations.FramesThatFailAreCounted : Prop :=
  (∀ (r : Radio) (bit : Bool),
     (r.rx = .listen →
       r.receiveBit bit =
         if r.search.shiftConcat bit = 0xE25A#16 then
           { r with search := 0xE25A#16, rx := .frame, windowSyncs := r.windowSyncs + 1 }
         else { r with search := r.search.shiftConcat bit }) ∧
     (r.rx ≠ .listen → r.receiveBit bit = r)) ∧
  (∀ s : State,
     (s.startUp = none → s.radio.rx = .listen → s.radio.txKey = false →
       exec .syncDetection s =
         .next (finish false s
           { s with
             radio := { s.radio with rx := .frame, search := 0xE25A#16, windowSyncs := s.radio.windowSyncs + 1 } })) ∧
     (Receiving s →
       (∀ cause, cause ≠ .carrierDropped →
         ∃ t, exec (.badFrame cause) s = .next (finish false s t) ∧ Only [.radio, .alarms] s t ∧
           windowEnds s t
             { afterFrame s with
               badFrames := min (s.radio.badFrames + 1) 65535, windowBad := s.radio.windowBad + 1 }) ∧
       (s.radio.carrier = true →
         ∃ t, exec (.badFrame .carrierDropped) s = .next (finish false s t) ∧ Only [.radio, .alarms] s t ∧
           windowEnds s t
             { afterFrame { s with radio := { s.radio with carrier := false, jamTimer := 0, jammed := false } } with
               guardTimer :=
                 if (afterFrame s).rx = .listen then some 0 else none
               badFrames := min (s.radio.badFrames + 1) 65535, windowBad := s.radio.windowBad + 1 }) ∧
       (∀ (kind : Byte) (f : RxFrame), f.payload.length ≤ 64 → frameCrcOk kind.toNat f = true →
         (f.sender.toNat = 0 ∨ 4000 < f.sender.toNat →
           ∃ t, exec (.frameRefused kind f) s = .next (finish false s t) ∧ Only [.radio, .alarms] s t ∧
             windowEnds s t
               { afterFrame s with framesRefused := min (s.radio.framesRefused + 1) 65535 }) ∧
         (within 1 4000 f.sender.toNat → f.sender.toNat = s.cfg.identity.address → s.radio.windowSyncs < 32 →
           ∃ t, exec (.frameRefused kind f) s = .next (finish false s t) ∧ Only [.radio, .alarms] s t ∧
             t.radio =
               { afterFrame s with addressConflicts := min (s.radio.addressConflicts + 1) 65535 } ∧
             t.alarms.flags = s.alarms.flags ||| 16#12) ∧
         (within 1 4000 f.sender.toNat → f.sender.toNat ≠ s.cfg.identity.address →
           kind.toNat ∉ [0x51, 0x62, 0x63, 0x74, 0x75, 0x86, 0x87] →
           ∃ t, exec (.frameRefused kind f) s = .next (finish false s t) ∧ Only [.radio, .alarms] s t ∧
             windowEnds s t
               { afterFrame s with framesRefused := min (s.radio.framesRefused + 1) 65535 })) ∧
       (∀ (kind : Nat) (c : Instr) (f : RxFrame) (p : Peer),
         (kind, c) ∈
           [(0x51, .stateFrame f), (0x62, .faultFrame f), (0x63, .isolateFrame f), (0x74, .tagFrame f),
             (0x75, .recallFrame f), (0x87, .crewAnswerFrame f)] →
         FramePasses s kind f → p ∈ s.peers.held → p.address = f.sender.toNat →
         f.seqNo.toNat ∈ p.sequenceSet → (f.flags.getLsbD 7 = true → p.restarted = true) →
         ∃ t, exec c s = .next (finish false s t) ∧ Only [.radio, .alarms] s t ∧
           windowEnds s t { afterFrame s with duplicates := min (s.radio.duplicates + 1) 65535 })))

/-- What follows every command changes only the radio line, and none of its counters but outbox overflow, nor its
window, carrier, sequence number or frame. With no trigger of R132 between the two states and none forced, it offers
nothing; with one, outside DEFAULTED operation, a STATE with the payload of the moment stands in the outbox when there
is room or a STATE to replace, and in an outbox full of URGENT notices each trigger's STATE is dropped and counted as
outbox overflow: one for each block's report of a change, one for each slot filled or emptied, one more for a
heartbeat that a change of mode finds expired, and one for a forced trigger. While TX key is on or a repeat waits, the
transmitter stays; an idle one takes the first notice that may go, powers the receiver, draws 0..3 for URGENT or 8..23
for STATE and enters DEFER or BACKOFF, and stays IDLE with none. An attempt before its first KEYUP returns to IDLE
when no notice may go. A notice may go unless it is a STATE while CHANNEL JAMMED is set, or a STATE, TAG or RECALL in
SURVIVAL with a survival allowance of 0. That the STATEs are offered last, at the end of the command, and the changes
counted as they stand there, is log entry 8; the drawn number is a free value (log entry 3). (R111, R125, R126, R128,
R130, R131, R132, R141, R177) -/
def Obligations.CommandEndOffersStateOnTrigger : Prop :=
  ∀ (forced : Bool) (s t : State),
    Only [.radio] t (finish forced s t) ∧ LineKept t.radio (finish forced s t).radio ∧
      (forced = false ∧ ¬ TriggerFell s t →
        (finish forced s t).radio.outbox.map (fun n => (n.kind, n.payload, n.made, n.seqNo, n.replaced)) =
            t.radio.outbox.map (fun n => (n.kind, n.payload, n.made, n.seqNo, n.replaced)) ∧
          (finish forced s t).radio.outboxOverflow = t.radio.outboxOverflow) ∧
      (forced = true ∨ TriggerFell s t → t.loader.defaulted = false →
        (t.radio.outbox.length < 8 ∨ (∃ n ∈ t.radio.outbox, n.kind = .state) →
          (∃ n ∈ (finish forced s t).radio.outbox, n.kind = .state ∧ n.payload = t.statePayload) ∧
            (finish forced s t).radio.outboxOverflow = t.radio.outboxOverflow) ∧
        (8 ≤ t.radio.outbox.length → (∀ n ∈ t.radio.outbox, n.kind ≠ .state) →
          (finish forced s t).radio.outboxOverflow =
              min (t.radio.outboxOverflow + triggersFallen s t + (if forced then 1 else 0)) 65535 ∧
            ∀ n ∈ (finish forced s t).radio.outbox, n.kind ≠ .state)) ∧
      (triggersFallen s t = 0 ↔ ¬ TriggerFell s t) ∧
      (t.loader.defaulted = true →
        (finish forced s t).radio.outbox.length = t.radio.outbox.length) ∧
      (t.txKeyOn = true ∨ t.radio.tx = .spacing →
        (finish forced s t).radio.tx = t.radio.tx ∧ (finish forced s t).radio.timer = t.radio.timer ∧
          (finish forced s t).radio.backoff = t.radio.backoff) ∧
      (forced = false ∧ ¬ TriggerFell s t → t.radio.tx = .idle →
        (∀ n, t.radio.outbox.find? t.mayGo = some n →
          ((finish forced s t).radio.tx = .defer ∨ (finish forced s t).radio.tx = .backoff) ∧
            (finish forced s t).receiverPowered = true ∧
            (finish forced s t).radio.current = some { n with attempted := true } ∧
            (n.kind ≠ .state → (finish forced s t).radio.backoff ≤ 3) ∧
            (n.kind = .state → within 8 23 (finish forced s t).radio.backoff)) ∧
        (t.radio.outbox.find? t.mayGo = none → (finish forced s t).radio.tx = .idle)) ∧
      (forced = false ∧ ¬ TriggerFell s t → t.radio.tx = .defer ∨ t.radio.tx = .backoff →
        (∀ n ∈ t.radio.outbox, n.attempted = true → n.seqNo = none) → t.radio.outbox.find? t.mayGo = none →
        (finish forced s t).radio.tx = .idle) ∧
      (∀ n, t.mayGo n = true ↔
        ¬ (t.radio.jammed = true ∧ n.kind = .state) ∧
          ¬ (t.battery.mode = .survival ∧ (n.kind = .state ∨ n.kind = .tag ∨ n.kind = .recall) ∧
            t.radio.allowance = 0))

/-- For every state whose outbox has at most eight notices with URGENT before ROUTINE and at most one STATE, whose
tables have 16, 8 and 24 places, dedupe list at most 4 and log at most 32 entries, whose peer records have distinct
addresses, and whose clock counts are in range, the state after any step has the same properties. (R121, R125, R126,
R135, R160, R163, R166, R181, R194) -/
def Obligations.QueuesAndTablesKeepTheirBounds : Prop :=
  ∀ s t : State, OutboxInv s.radio → TablesInv s → PeersInv s → ClockInv s.clock → step s = .next t →
    OutboxInv t.radio ∧ TablesInv t ∧ PeersInv t ∧ ClockInv t.clock

/-- For every state whose tags and settings fit their fields, the STATE payload built from it passes the check of
R142, is 13 bytes and 5 for each present tag long, and a receiver reads from it this station's role, protective flag,
segments, power mode, heartbeat interval, closed position and local tag items. Its bytes are those of the table of
8.4: role, protective flag, hot-line mode and fast-blocked; both segments; position, both presences and link grade;
sequence state; lockout reason and gate detail; shot and event number, where they fit their fields; battery grade and
power mode; heartbeat interval; and the tag item count. The unused bits are 0. The protective flag is the effective
one (log entry 11). (R141, R142, R164, 8.4) -/
def Obligations.OwnStateIsAcceptedByPeers : Prop :=
  ∀ s : State, Reportable s →
    stateOk s.statePayload = true ∧ s.statePayload.length = 13 + 5 * s.tags.present.length ∧
      payloadIdentity s.statePayload =
        { role := s.cfg.identity.role, protective := s.protective, source := s.cfg.identity.sourceSegment
          load := s.cfg.identity.loadSegment } ∧
      stateMode s.statePayload = s.battery.mode ∧ stateHeartbeat s.statePayload = s.cfg.radio.heartbeat ∧
      (stateClosed s.statePayload = true ↔ s.mech.position = .closed) ∧ stateItems s.statePayload = s.localItems ∧
      let at_ := byteAt s.statePayload
      at_ 0 =
          codeIn roleCodes s.cfg.identity.role * 64 + mark s.protective 5 + mark s.seq.hotLine 4 +
            mark s.oc.fastBlocked 3 ∧
        at_ 1 = s.cfg.identity.sourceSegment ∧ at_ 2 = s.cfg.identity.loadSegment ∧
        at_ 3 =
          codeIn positionCodes s.mech.position * 64 + codeIn presenceCodes s.meas.src.presence * 16 +
            codeIn presenceCodes s.meas.load.presence * 4 + codeIn linkCodes s.radio.link ∧
        at_ 4 = codeIn sequenceCodes s.seqState ∧
        at_ 5 = codeIn reasonCodes s.seq.reason * 16 + codeIn detailCodes s.seq.detail ∧
        (s.seq.shot < 256 → at_ 6 = s.seq.shot) ∧
        (s.seq.eventNumber < 65536 → u16At s.statePayload 7 = s.seq.eventNumber) ∧
        at_ 9 = codeIn gradeCodes s.battery.grade * 32 + codeIn modeCodes s.battery.mode * 8 ∧
        u16At s.statePayload 10 = s.cfg.radio.heartbeat ∧ at_ 12 = s.tags.present.length

/-- A STATE passes the check when its length is 13 and 5 for each of at most 8 tag items, its role, presences,
sequence state, lockout reason, gate detail, battery grade and power mode hold codes of their tables, its heartbeat
interval is 10..600 s, and no item holds scope code 3, a segment above 250 or the tag number of another. An accepted
STATE from a known peer, in a link window that goes on and without a restart heard, refreshes the record, stores
identity, payload and stale interval, ends provisional, and marks an isolation report superseded when it reports the
switch CLOSED. With RESTARTED the tags stay; without it the holder's entries that are not listed leave, listed ones
take the listed content and lose ORPHAN, new ones enter at the lowest free index, TAG OVERFLOW is set with its cause
when some listed item found no place, which it does only with no index free, and cleared when all did, other holders'
entries stay at their index, and hot-line mode follows the tables. A payload that fails the check only refreshes the
record and is counted. (R121, R136, R140, R142, R164, R174, R165) -/
def Obligations.StateFrameIsRecorded : Prop :=
  (∀ payload : List Byte,
    let at_ := byteAt payload
    (stateOk payload = true ↔
      payload.length = 13 + 5 * at_ 12 ∧ at_ 12 ≤ 8 ∧ at_ 0 / 64 ≤ 2 ∧ at_ 3 / 16 % 4 ≤ 2 ∧ at_ 3 / 4 % 4 ≤ 2 ∧
        at_ 4 ≤ 9 ∧ at_ 5 / 16 ≤ 10 ∧ at_ 5 % 16 ≤ 6 ∧ at_ 9 / 32 ≤ 5 ∧ at_ 9 / 8 % 4 ≤ 2 ∧
        within 10 600 (u16At payload 10) ∧ ItemsInRange payload 13 (at_ 12)) ∧
    ItemsFrom payload 13 (at_ 12) (stateItems payload) ∧ stateHeartbeat payload = u16At payload 10 ∧
    (stateOk payload = true →
      codeIn modeCodes (stateMode payload) = at_ 9 / 8 % 4 ∧
        codeIn roleCodes (payloadIdentity payload).role = at_ 0 / 64 ∧
        mark (payloadIdentity payload).protective 0 = at_ 0 / 32 % 2 ∧ (payloadIdentity payload).source = at_ 1 ∧
        (payloadIdentity payload).load = at_ 2)) ∧
  ∀ (s : State) (f : RxFrame) (slot : Nat) (p : Peer), FrameAccepted s 0x51 f slot p →
    (stateOk f.payload = true →
      ∃ t, exec (.stateFrame f) s = .next (finish false s t) ∧
        Only [.radio, .peers, .tags, .seq, .coord, .oc, .mail, .log, .alarms] s t ∧ t.radio = radioAccepted s ∧
        t.peers =
          { s.peers with
            slots :=
              s.peers.slots.set slot
                (some
                  { refreshed s f p with
                    identity := some (payloadIdentity f.payload), lastState := some f.payload, provisional := false
                    interval :=
                      stateHeartbeat f.payload * 1000 *
                        (match stateMode f.payload with | .full => 1 | .economy => 4 | .survival => 16)
                    isolation :=
                      p.isolation.map fun r =>
                        { r with superseded := r.superseded || decide (bits (byteAt f.payload 3) 6 2 = 1) } }) } ∧
        t.tags.slots = s.tags.slots ∧ t.tags.unconfirmed = s.tags.unconfirmed ∧
        (f.flags.getLsbD 7 = true → t.tags = s.tags ∧ t.seq = s.seq ∧ t.oc = s.oc ∧ t.alarms = s.alarms) ∧
        (f.flags.getLsbD 7 = false →
          t.seq.hotLine = t.hotLineCondition ∧
          (∀ holder number, holder ≠ f.sender.toNat → t.tags.entry holder number = s.tags.entry holder number) ∧
          (∀ number, (∀ i ∈ stateItems f.payload, i.number ≠ number) →
            t.tags.entry f.sender.toNat number = none) ∧
          (∀ i ∈ stateItems f.payload, ∀ e, s.tags.entry f.sender.toNat i.number = some e →
            t.tags.entry f.sender.toNat i.number =
              some (if e.generation = i.generation then { e with orphan := false } else i.entry f.sender.toNat)) ∧
          (∀ i ∈ stateItems f.payload, s.tags.entry f.sender.toNat i.number = none →
            t.tags.entry f.sender.toNat i.number = some (i.entry f.sender.toNat) ∨ t.tags.overflow = true) ∧
          (t.tags.overflow = true ↔ ∃ i ∈ stateItems f.payload, t.tags.entry f.sender.toNat i.number = none) ∧
          (t.tags.overflow = true → ∀ x ∈ t.tags.feeder, x ≠ none) ∧
          t.tags.feeder.length = s.tags.feeder.length ∧
          (∀ (k : Nat) (e : FeederTag), s.tags.feeder[k]? = some (some e) → e.holder ≠ f.sender.toNat →
            t.tags.feeder[k]? = some (some e)) ∧
          (∀ (k : Nat) (e : FeederTag), t.tags.feeder[k]? = some (some e) → e.holder = f.sender.toNat →
            s.tags.entry f.sender.toNat e.number = none → ∀ j < k, t.tags.feeder[j]? ≠ some none) ∧
          (s.tags.overflow = false → t.tags.overflow = true → t.alarms.isPending .tagOverflow = true))) ∧
    (stateOk f.payload = false →
      exec (.stateFrame f) s =
        .next (finish false s
          { s with
            radio := radioAccepted s
            peers :=
              { s.peers with
                slots := s.peers.slots.set slot (some (refreshed s f p))
                payloadsRefused := min (s.peers.payloadsRefused + 1) 65535 } }))

/-- For frames of known peers, without a restart heard and in a link window that goes on: an accepted FAULT that
passes its check is stored in the peer's record; it touches the Overcurrent Unit only when the peer is downstream and
protective, unless a pending loss opens the switch. It then acts as the table of fast blocking: with fast-blocked set
it changes nothing; in QUIET and WATCHING it sets fast-blocked during an event and nothing without one; under hot-line
forced it sets fast-blocked alone; otherwise it sets fast-blocked and clears and disarms FAST in RUNNING, HOLD and
DEMANDED, the hold ending in RUNNING with its counter at 0. With a pending loss it leaves the isolation alone when the
loss is out of its window or the peer is not upstream, and drops the loss uncounted when the conditions of R148 no
longer hold; with a pending loss in its window at a MIDPOINT where they hold, and an upstream peer, it counts an
isolation and, at the setting, opens the switch with cause ISOLATE. An accepted ISOLATE is stored; in DEAD at a HEAD
or MIDPOINT one from a downstream peer whose faulted segment is not this load segment shortens the dead time to at
most 200 ms, and at a TIE whose tie delay is served and whose dead side is cut off it starts a restore close through
the gate. A FAULT or ISOLATE payload that fails its check only refreshes the record and is counted; the checks are
those of R143 and R144. That a fast block under hot-line forced leaves a unit in HOLD there is log entry 35, and that
an event is open from its first block is log entry 48. That the check of an ISOLATE lets its source and load segments
pass above 250 is the model's choice (log entry 40). (R143, R144, R34, R37, R145, R146, R148, R151, R153, R154, R156,
R157) -/
def Obligations.FaultAndIsolateFramesActOnThisStation : Prop :=
  (∀ (s : State) (f : RxFrame) (slot : Nat) (p : Peer), FrameAccepted s 0x62 f slot p → faultOk f.payload = true →
     let b := byteAt f.payload
     ∃ t, exec (.faultFrame f) s = .next (finish false s t) ∧ t.radio = radioAccepted s ∧ t.tags = s.tags ∧
       t.peers =
         { s.peers with
           slots :=
             s.peers.slots.set slot
               (some
                 { refreshed s f p with
                   identity := some (payloadIdentity f.payload)
                   fault :=
                     some
                       { event := b 3 * 256 + b 4
                         elements :=
                           ⟨bitSet (b 0) 3, bitSet (b 0) 2, bitSet (b 0) 1, bitSet (b 0) 0⟩
                         highest := b 6, shot := b 5, clipped := bitSet (b 0) 4, heard := s.clock.ms / 10 * 10 } }) } ∧
       (s.coord.pendingLoss = none →
         Only [.radio, .peers, .oc] s t ∧ (¬ DownstreamProtective s f.payload → t.oc = s.oc) ∧
         (DownstreamProtective s f.payload → FastBlocked s t)) ∧
       (∀ time, s.coord.pendingLoss = some time →
         let meets := time + s.cfg.coordination.isolateWindow ≥ s.clock.ms / 10 * 10 ∧
           s.cfg.identity.role ≠ .tie ∧ (payloadIdentity f.payload).role ≠ .tie ∧
           byteAt f.payload 2 = s.cfg.identity.sourceSegment ∧ s.cfg.identity.sourceSegment ≠ 0
         let runs := s.cfg.identity.role = .midpoint ∧ s.loader.defaulted = false ∧ s.mech.position = .closed ∧
           s.seq.phase.isClosed = true ∧ s.meas.state = .sound
         (¬ meets → t.coord = s.coord ∧ t.seq = s.seq ∧ t.mech = s.mech) ∧
         (meets → ¬ runs → t.coord = { s.coord with pendingLoss := none } ∧ t.seq = s.seq ∧ t.mech = s.mech) ∧
         (¬ (meets ∧ runs) →
           (DownstreamProtective s f.payload → FastBlocked s t) ∧
             (¬ DownstreamProtective s f.payload → t.oc = s.oc))) ∧
       (∀ time, s.coord.pendingLoss = some time → time + s.cfg.coordination.isolateWindow ≥ s.clock.ms / 10 * 10 →
         s.cfg.identity.role = .midpoint → (payloadIdentity f.payload).role ≠ .tie →
         byteAt f.payload 2 = s.cfg.identity.sourceSegment → s.cfg.identity.sourceSegment ≠ 0 →
         s.loader.defaulted = false → CanOpen s → s.meas.state = .sound →
         let setting := s.cfg.coordination.isolateCount
         t.coord.pendingLoss = none ∧ t.seq.isolateCount = min (s.seq.isolateCount + 1) setting ∧
           t.seq.sectionalizeCount = s.seq.sectionalizeCount ∧
           (setting ≤ s.seq.isolateCount + 1 → OpenStarted s t ⟨false, false, false, true⟩) ∧
           (s.seq.isolateCount + 1 < setting → t.seq.phase = s.seq.phase ∧ t.mech = s.mech))) ∧
  (∀ (s : State) (f : RxFrame) (slot : Nat) (p : Peer), FrameAccepted s 0x63 f slot p → isolateOk f.payload = true →
     let b := byteAt f.payload
     let identity := payloadIdentity f.payload
     ∃ t, exec (.isolateFrame f) s = .next (finish false s t) ∧ t.radio = radioAccepted s ∧
       t.peers =
         { s.peers with
           slots :=
             s.peers.slots.set slot
               (some
                 { refreshed s f p with
                   identity := some identity
                   isolation :=
                     some
                       { event := b 3 * 256 + b 4, isolated := bitSet (b 0) 4, faulted := b 5, cutOff := b 6
                         heard := s.clock.ms / 10 * 10, superseded := false } }) } ∧
       (s.cfg.identity.role ≠ .tie →
         Only [.radio, .peers, .seq] s t ∧
           t.seq =
             (if s.seq.phase = .dead ∧ identity.role ≠ .tie ∧ s.cfg.identity.loadSegment ≠ 0 ∧
                 b 1 = s.cfg.identity.loadSegment ∧ b 5 ≠ s.cfg.identity.loadSegment then
               { s.seq with deadTimer := s.seq.deadTimer.map fun rest => min rest 200 }
             else s.seq)) ∧
       (∀ side, s.cfg.identity.role = .tie → s.loader.defaulted = false → s.seq.phase = .standby →
         s.coord.tie = some side → side.served = true →
         s.meas.src.presence = (if side.deadIsSource then .dead else .live) →
         s.meas.load.presence = (if side.deadIsSource then .live else .dead) →
         b 6 = (if side.deadIsSource then s.cfg.identity.sourceSegment else s.cfg.identity.loadSegment) → b 6 ≠ 0 →
         GatePasses s → s.mech.position = .opened →
         CloseStarted s t false)) ∧
  (∀ (s : State) (kind : Nat) (f : RxFrame) (slot : Nat) (p : Peer), FrameAccepted s kind f slot p →
     let refusedIn : State :=
       { s with
         radio := radioAccepted s
         peers :=
           { s.peers with
             slots := s.peers.slots.set slot (some (refreshed s f p))
             payloadsRefused := min (s.peers.payloadsRefused + 1) 65535 } }
     (kind = 0x62 → faultOk f.payload = false → exec (.faultFrame f) s = .next (finish false s refusedIn)) ∧
     (kind = 0x63 → isolateOk f.payload = false → exec (.isolateFrame f) s = .next (finish false s refusedIn))) ∧
  (∀ bs : List Byte,
     (faultOk bs = true ↔
       bs.length = 7 ∧ byteAt bs 0 / 64 ≤ 2 ∧ within 1 4 (byteAt bs 5) ∧ byteAt bs 6 ≤ 15 ∧ byteAt bs 0 % 16 ≠ 0) ∧
     (isolateOk bs = true ↔
       bs.length = 7 ∧ byteAt bs 0 / 64 ≤ 2 ∧ within 1 250 (byteAt bs 5) ∧ byteAt bs 6 ≤ 250))

/-- A tag item of five bytes gives a number of 0..7, a kind, a scope code, a grade of 1..4, a generation, a segment
and a crew ID. A list of items passes R164 when none holds scope code 3 or a segment above 250 and no two hold one
number, and a RECALL when it also has 3 bytes and 5 for each of at most 8 items. For frames of known peers, without a
restart heard and in a link window that goes on: an accepted TAG changes only the entry of its holder and number:
PLACED enters it, replaces one of another generation, or sets TAG OVERFLOW in a full table, with its cause on the
change from clear; REMOVED takes out the entry of its generation. An accepted RECALL for this station, while TAGS
UNCONFIRMED is set, fills each absent slot but 0 with its item, marked RECALLED, and leaves present and unnamed slots;
each item but 0 whose present slot has another generation counts a recall conflict; while it is clear it is counted as
ignored; one for another station changes no tag. A payload that R164 refuses only refreshes the record and is counted.
A CREW ANSWER only refreshes the record. The refusal of wrong lengths is log entry 14, and that a filled tag keeps no
segment of its item is log entry 43. (R164, R165, R173, R175, R177, R178, R122) -/
def Obligations.TagAndRecallFramesChangeTags : Prop :=
  (∀ (payload : List Byte) (place count : Nat),
    let i := itemAt payload place
    let first := byteAt payload place
    (i.number = first / 32 ∧ i.number ≤ 7 ∧ codeIn tagKindCodes i.kind = first / 16 % 2 ∧
      i.scopeCode = first / 4 % 4 ∧ i.grade = first % 4 + 1 ∧ within 1 4 i.grade ∧
      i.generation = byteAt payload (place + 1) ∧ i.segment = byteAt payload (place + 2) ∧
      i.crewId = u16At payload (place + 3)) ∧
    ItemsFrom payload place count (itemsAt payload place count) ∧
    (itemsOk (itemsAt payload place count) = true ↔ ItemsInRange payload place count) ∧
    (itemsOk [itemAt payload place] = true ↔ first / 4 % 4 ≠ 3 ∧ byteAt payload (place + 2) ≤ 250)) ∧
  (∀ items : List TagItem,
    itemsOk items = true ↔
      (∀ i ∈ items, i.scopeCode ≠ 3 ∧ i.segment ≤ 250) ∧ (items.map TagItem.number).Nodup) ∧
  (∀ payload : List Byte,
    recallOk payload = true ↔
      payload.length = 3 + 5 * byteAt payload 2 ∧ byteAt payload 2 ≤ 8 ∧
        ItemsInRange payload 3 (byteAt payload 2)) ∧
  (∀ (i : TagItem) (holder : Nat), i.scopeCode ≤ 2 →
    let e := i.entry holder
    e.holder = holder ∧ e.number = i.number ∧ e.generation = i.generation ∧ e.kind = i.kind ∧
      codeIn scopeCodes e.scope = i.scopeCode ∧ e.segment = i.segment ∧ e.grade = i.grade ∧ e.crewId = i.crewId ∧
      e.orphan = false ∧ e.blocked = 0) ∧
  ∀ (s : State) (f : RxFrame) (slot : Nat) (p : Peer),
    let payloadRefused : State :=
      { s with
        radio := radioAccepted s
        peers := { s.peers with slots := s.peers.slots.set slot (some (refreshed s f p)) }
        tags := { s.tags with payloadsRefused := min (s.tags.payloadsRefused + 1) 65535 } }
    (FrameAccepted s 0x74 f slot p → f.payload.length = 6 → itemsOk [itemAt f.payload 1] = true →
      let item := itemAt f.payload 1
      let holder := f.sender.toNat
      ∃ t, exec (.tagFrame f) s = .next (finish false s t) ∧
        Only [.radio, .peers, .tags, .seq, .coord, .oc, .mail, .log, .alarms] s t ∧ t.radio = radioAccepted s ∧
        t.peers = { s.peers with slots := s.peers.slots.set slot (some (refreshed s f p)) } ∧
        t.tags.slots = s.tags.slots ∧ t.seq.hotLine = t.hotLineCondition ∧
        (∀ h n, ¬ (h = holder ∧ n = item.number) → t.tags.entry h n = s.tags.entry h n) ∧
        (bitSet (byteAt f.payload 0) 7 = false →
          (s.tags.entry holder item.number = none →
            t.tags.entry holder item.number = some (item.entry holder) ∨
              ((∀ x ∈ s.tags.feeder, x ≠ none) ∧ t.tags.feeder = s.tags.feeder ∧ t.tags.overflow = true)) ∧
          (∀ e, s.tags.entry holder item.number = some e →
            t.tags.entry holder item.number =
              some (if e.generation = item.generation then e else item.entry holder)) ∧
          (t.tags.entry holder item.number ≠ none → t.tags.overflow = s.tags.overflow) ∧
          (s.tags.overflow = false → t.tags.overflow = true → t.alarms.isPending .tagOverflow = true)) ∧
        (bitSet (byteAt f.payload 0) 7 = true →
          (∀ x, some x ∈ s.tags.feeder → x.holder = holder → x.number = item.number →
            s.tags.entry holder item.number = some x) →
          t.tags.entry holder item.number =
            (s.tags.entry holder item.number).filter fun e => e.generation ≠ item.generation)) ∧
    (FrameAccepted s 0x74 f slot p → ¬ (f.payload.length = 6 ∧ itemsOk [itemAt f.payload 1] = true) →
      exec (.tagFrame f) s = .next (finish false s payloadRefused)) ∧
    (FrameAccepted s 0x75 f slot p → recallOk f.payload = false →
      exec (.recallFrame f) s = .next (finish false s payloadRefused)) ∧
    (FrameAccepted s 0x75 f slot p → recallOk f.payload = true →
      ∃ t, exec (.recallFrame f) s = .next (finish false s t) ∧ t.radio = radioAccepted s ∧
        t.peers = { s.peers with slots := s.peers.slots.set slot (some (refreshed s f p)) } ∧
        t.tags.feeder = s.tags.feeder ∧
        (u16At f.payload 0 ≠ s.cfg.identity.address → Only [.radio, .peers] s t) ∧
        (u16At f.payload 0 = s.cfg.identity.address → s.tags.unconfirmed = false →
          Only [.radio, .peers, .tags] s t ∧
            t.tags = { s.tags with recallsIgnored := min (s.tags.recallsIgnored + 1) 65535 }) ∧
        (u16At f.payload 0 = s.cfg.identity.address → s.tags.unconfirmed = true → s.tags.slots.length = 8 →
          let conflicts :=
            (itemsAt f.payload 3 (byteAt f.payload 2)).countP fun i =>
              i.number ≠ 0 && ((s.tags.slot i.number).tag.any fun tag => tag.generation ≠ i.generation)
          t.tags.recallsIgnored = s.tags.recallsIgnored ∧
          (conflicts = 0 → t.tags.recallConflicts = s.tags.recallConflicts) ∧
          (0 < conflicts → t.tags.recallConflicts = min (s.tags.recallConflicts + conflicts) 65535) ∧
          t.seq.hotLine = t.hotLineCondition ∧ t.tags.slot 0 = s.tags.slot 0 ∧
          (∀ i ∈ itemsAt f.payload 3 (byteAt f.payload 2), i.number ≠ 0 →
            ((s.tags.slot i.number).tag = none →
              t.tags.slot i.number =
                ⟨some
                    { kind := i.kind, scope := scopeOfCode i.scopeCode, crewId := i.crewId, grade := i.grade
                      generation := i.generation, placed := s.clock.seconds, blocked := 0, recalled := true },
                  i.generation⟩) ∧
            ((s.tags.slot i.number).tag ≠ none → t.tags.slot i.number = s.tags.slot i.number)) ∧
          (∀ n, (∀ i ∈ itemsAt f.payload 3 (byteAt f.payload 2), i.number ≠ n) →
            t.tags.slot n = s.tags.slot n))) ∧
    (FrameAccepted s 0x87 f slot p →
      exec (.crewAnswerFrame f) s =
        .next (finish false s
          { s with
            radio := radioAccepted s
            peers := { s.peers with slots := s.peers.slots.set slot (some (refreshed s f p)) } }))

/-- A frame from a sender without a record, with RESTARTED clear: a CREW ANSWER makes a provisional FRESH record in
the lowest free slot; with all 16 slots in use it takes the slot of the LOST record heard earliest, the lower on equal
times, and counts an eviction, or, with none LOST, counts peer table full. With none LOST, a STATE, FAULT or ISOLATE
that passes its check and shares a segment evicts the non-adjacent record heard earliest: its peer is lost (PEER LOST
raised, its tags ORPHAN), the newcomer stands in its slot and the other records stay; one that does not, or that finds
no such record, only counts peer table full. A frame with RESTARTED from a record that did not carry it empties the
sequence set to that frame, forces a STATE, and, when the feeder table holds tags of that peer, outside DEFAULTED
operation and with room, offers a RECALL with all of them, and none without such tags. The same restart is heard when
a CREW ANSWER with RESTARTED makes a new record, in a free slot or in the slot of a LOST record; a newcomer that is
not admitted is no restart heard and counts peer table full alone. The order of the RECALL before the frame's own
content is log entry 15. That the check of an ISOLATE lets its source and load segments pass above 250 is the model's
choice (log entry 40). (R121, R136, R137, R138, R139, R140, R145, R176) -/
def Obligations.NewSendersAndRestartsAreTaken : Prop :=
  (∀ (s : State) (f : RxFrame), Receiving s → s.radio.windowSyncs < 32 →
     (∀ q ∈ s.peers.held, q.address ≠ f.sender.toNat) → f.flags.getLsbD 7 = false →
     let full := ∀ x ∈ s.peers.slots, x ≠ none
     let noneLost := ∀ q ∈ s.peers.held, q.freshness ≠ .lost
     let refused : State :=
       { s with
         radio := radioAccepted s
         peers := { s.peers with tableFull := min (s.peers.tableFull + 1) 65535 } }
     (FramePasses s 0x87 f →
       (∀ slot, s.peers.slots[slot]? = some none → (∀ k < slot, s.peers.slots[k]? ≠ some none) →
         exec (.crewAnswerFrame f) s =
           .next (finish false s
             { s with
               radio := radioAccepted s
               peers := { s.peers with slots := s.peers.slots.set slot (some (newRecord s f)) } })) ∧
       (∀ slot q, full → EarliestOf (fun r => r.freshness = .lost) s slot q →
         exec (.crewAnswerFrame f) s =
           .next (finish false s
             { s with
               radio := radioAccepted s
               peers :=
                 { s.peers with
                   slots := s.peers.slots.set slot (some (newRecord s f))
                   evictions := min (s.peers.evictions + 1) 65535 } })) ∧
       (full → noneLost → exec (.crewAnswerFrame f) s = .next (finish false s refused))) ∧
     (∀ (kind : Nat) (c : Instr) (ok : Bool),
       (kind, c, ok) ∈
         [(0x51, Instr.stateFrame f, stateOk f.payload), (0x62, Instr.faultFrame f, faultOk f.payload),
           (0x63, Instr.isolateFrame f, isolateOk f.payload)] →
       FramePasses s kind f → full → noneLost →
       (∀ slot q, ok = true → SharesSegment s (payloadIdentity f.payload) → EarliestOf (NonAdjacent s) s slot q →
         ∃ t, exec c s = .next (finish false s t) ∧ t.peers.evictions = min (s.peers.evictions + 1) 65535 ∧
           t.peers.tableFull = s.peers.tableFull ∧ t.alarms.isPending .peerLost = true ∧
           (∃ r, t.peers.slots[slot]? = some (some r) ∧ r.address = f.sender.toNat ∧
             r.identity = some (payloadIdentity f.payload) ∧ r.freshness = .fresh) ∧
           (∀ k, k ≠ slot → t.peers.slots[k]? = s.peers.slots[k]?) ∧
           (∀ n, s.tags.entry q.address n ≠ none →
             (t.tags.entry q.address n).map FeederTag.orphan = some true)) ∧
       (ok = false ∨ ¬ SharesSegment s (payloadIdentity f.payload) ∨ (∀ q ∈ s.peers.held, ¬ NonAdjacent s q) →
         exec c s = .next (finish false s refused)))) ∧
  (∀ (s : State) (f : RxFrame) (slot : Nat) (p : Peer), Receiving s → FramePasses s 0x87 f →
     s.radio.windowSyncs < 32 → s.peers.slotOf f.sender.toNat = some slot → s.peers.slots[slot]? = some (some p) →
     (∀ q ∈ s.peers.held, q.address = f.sender.toNat → q = p) → f.flags.getLsbD 7 = true → p.restarted = false →
     ∃ t, exec (.crewAnswerFrame f) s = .next (finish true s t) ∧ Only [.radio, .peers] s t ∧
       t.peers =
         { s.peers with
           slots :=
             s.peers.slots.set slot (some { refreshed s f p with sequenceSet := [f.seqNo.toNat] }) } ∧
       RecallAnswers s t f.sender.toNat) ∧
  (∀ (s : State) (f : RxFrame), Receiving s → FramePasses s 0x87 f → s.radio.windowSyncs < 32 →
     (∀ q ∈ s.peers.held, q.address ≠ f.sender.toNat) → f.flags.getLsbD 7 = true →
     let full := ∀ x ∈ s.peers.slots, x ≠ none
     (∀ slot, s.peers.slots[slot]? = some none → (∀ k < slot, s.peers.slots[k]? ≠ some none) →
       ∃ t, exec (.crewAnswerFrame f) s = .next (finish true s t) ∧ Only [.radio, .peers] s t ∧
         t.peers = { s.peers with slots := s.peers.slots.set slot (some (newRecord s f)) } ∧
         RecallAnswers s t f.sender.toNat) ∧
     (∀ slot q, full → EarliestOf (fun r => r.freshness = .lost) s slot q →
       ∃ t, exec (.crewAnswerFrame f) s = .next (finish true s t) ∧ Only [.radio, .peers] s t ∧
         t.peers =
           { s.peers with
             slots := s.peers.slots.set slot (some (newRecord s f))
             evictions := min (s.peers.evictions + 1) 65535 } ∧
         RecallAnswers s t f.sender.toNat) ∧
     (full → (∀ q ∈ s.peers.held, q.freshness ≠ .lost) →
       exec (.crewAnswerFrame f) s =
         .next (finish false s
           { s with
             radio := radioAccepted s
             peers := { s.peers with tableFull := min (s.peers.tableFull + 1) 65535 } })))

/-- A new PLACE, REMOVE or CLEAR ORPHAN ask of a roster member, addressed to this station, is counted, kept on the
dedupe list and answered by the first check that fails, with the tables unchanged; when none fails, PLACE fills the
lowest absent slot of 1..7 with the next generation and offers TAG PLACED, REMOVE empties the slot (a lower grade
needs the tag's own crew ID) and offers TAG REMOVED, both outside DEFAULTED operation and into an outbox with room,
and CLEAR ORPHAN frees the ORPHAN entry for a sufficient grade; a selector beyond its table is answered BAD SELECTOR
and one of an absent slot or entry NO TAG, in either table. Which selector an answer echoes is log entry 18. That the
TAG notice joins the outbox before the CREW ANSWER, so that the TAG stands there also when one place is left (seven
notices held, all URGENT), is the model's choice (log entry 41). (R166, R167, R168, R169, R170, R172, R173) -/
def Obligations.AsksChangeTheTagTables : Prop :=
  ∀ (s : State) (a : AskFrame) (grade : Nat),
    let operand := a.operand.toNat
    let index := operand % 32
    let bySelector := (if 128 ≤ operand then 128 else 0) + index
    (AskOfCrew s .place a grade → operand / 16 % 4 ≤ 2 →
      let scope : Scope := if operand / 16 % 4 = 0 then .station else if operand / 16 % 4 = 1 then .source else .load
      let kind : TagKind := if 128 ≤ operand then .holdOpen else .hotLine
      let noSegment := (scope = .source ∧ s.cfg.identity.sourceSegment = 0) ∨
        (scope = .load ∧ s.cfg.identity.loadSegment = 0)
      ∃ t, exec (.placeAsk a) s = .next (finish false s t) ∧
        (s.tags.unconfirmed = true →
          Answered s t (askRx .place a) 0 13 0 0 0 ∧ t.tags.slots = s.tags.slots) ∧
        (s.tags.unconfirmed = false → noSegment →
          Answered s t (askRx .place a) 0 1 0 0 0 ∧ t.tags.slots = s.tags.slots) ∧
        (s.tags.unconfirmed = false → ¬ noSegment → kind = .holdOpen → s.mech.position ≠ .opened →
          Answered s t (askRx .place a) 0 9 0 0 0 ∧ t.tags.slots = s.tags.slots) ∧
        (s.tags.unconfirmed = false → ¬ noSegment → (kind = .hotLine ∨ s.mech.position = .opened) →
          (∀ n, within 1 7 n → (s.tags.slot n).tag ≠ none) →
          Answered s t (askRx .place a) 0 10 0 0 0 ∧ t.tags.slots = s.tags.slots) ∧
        (∀ n, s.tags.unconfirmed = false → ¬ noSegment → (kind = .hotLine ∨ s.mech.position = .opened) →
          within 1 7 n → (s.tags.slot n).tag = none → (∀ m, within 1 7 m → m < n → (s.tags.slot m).tag ≠ none) →
          let generation := ((s.tags.slot n).counter + 1) % 256
          Answered s t (askRx .place a) 0 0 n 0 0 ∧
            t.tags.slots =
              s.tags.slots.set n
                ⟨some
                    { kind, scope, crewId := a.crewId.toNat, grade, generation, placed := s.clock.seconds
                      blocked := 0, recalled := false },
                  generation⟩ ∧
            (s.loader.defaulted = false → s.radio.outbox.length < 8 →
              TagOffered s t false n
                { kind, scope, crewId := a.crewId.toNat, grade, generation, placed := s.clock.seconds
                  blocked := 0, recalled := false }) ∧
            (kind = .hotLine → s.tags.slots.length = 8 → t.seq.hotLine = true))) ∧
    (AskOfCrew s .remove a grade →
      ∃ t, exec (.removeAsk a) s = .next (finish false s t) ∧ t.tags.feeder = s.tags.feeder ∧
        (128 ≤ operand → Answered s t (askRx .remove a) 1 6 bySelector 0 0 ∧ t.tags.slots = s.tags.slots) ∧
        (operand < 128 → 7 < index →
          Answered s t (askRx .remove a) 1 4 bySelector 0 0 ∧ t.tags.slots = s.tags.slots) ∧
        (operand < 128 → index ≤ 7 → (s.tags.slot index).tag = none →
          Answered s t (askRx .remove a) 1 5 bySelector 0 0 ∧ t.tags.slots = s.tags.slots) ∧
        (∀ tag, operand < 128 → index = 0 → (s.tags.slot 0).tag = some tag →
          Answered s t (askRx .remove a) 1 7 bySelector 0 0 ∧ t.tags.slots = s.tags.slots) ∧
        (∀ tag, operand < 128 → within 1 7 index → (s.tags.slot index).tag = some tag →
          (grade < tag.grade ∧ a.crewId.toNat ≠ tag.crewId →
            Answered s t (askRx .remove a) 1 3 bySelector 0 0 ∧ t.tags.slots = s.tags.slots) ∧
          (tag.grade ≤ grade ∨ a.crewId.toNat = tag.crewId →
            Answered s t (askRx .remove a) 1 0 bySelector 0 0 ∧
              t.tags.slots = s.tags.slots.set index ⟨none, (s.tags.slot index).counter⟩ ∧
              (s.loader.defaulted = false → s.radio.outbox.length < 8 → TagOffered s t true index tag)))) ∧
    (AskOfCrew s .clearOrphan a grade →
      ∃ t, exec (.clearOrphanAsk a) s = .next (finish false s t) ∧ t.tags.slots = s.tags.slots ∧
        t.tags.overflow = s.tags.overflow ∧
        (operand < 128 → index ≤ 7 → (s.tags.slot index).tag ≠ none →
          Answered s t (askRx .clearOrphan a) 2 8 bySelector 0 0 ∧ t.tags.feeder = s.tags.feeder) ∧
        (operand < 128 → 7 < index →
          Answered s t (askRx .clearOrphan a) 2 4 bySelector 0 0 ∧ t.tags.feeder = s.tags.feeder) ∧
        (operand < 128 → index ≤ 7 → (s.tags.slot index).tag = none →
          Answered s t (askRx .clearOrphan a) 2 5 bySelector 0 0 ∧ t.tags.feeder = s.tags.feeder) ∧
        (128 ≤ operand → 23 < index →
          Answered s t (askRx .clearOrphan a) 2 4 bySelector 0 0 ∧ t.tags.feeder = s.tags.feeder) ∧
        (128 ≤ operand → index ≤ 23 → s.tags.feeder.getD index none = none →
          Answered s t (askRx .clearOrphan a) 2 5 bySelector 0 0 ∧ t.tags.feeder = s.tags.feeder) ∧
        (∀ e, 128 ≤ operand → index ≤ 23 → s.tags.feeder.getD index none = some e →
          (e.orphan = false →
            Answered s t (askRx .clearOrphan a) 2 8 bySelector 0 0 ∧ t.tags.feeder = s.tags.feeder) ∧
          (e.orphan = true → grade < max s.cfg.crew.orphanGrade e.grade →
            Answered s t (askRx .clearOrphan a) 2 3 bySelector 0 0 ∧ t.tags.feeder = s.tags.feeder) ∧
          (e.orphan = true → max s.cfg.crew.orphanGrade e.grade ≤ grade →
            Answered s t (askRx .clearOrphan a) 2 0 bySelector 0 0 ∧
              t.tags.feeder = s.tags.feeder.set index none)))

/-- A CONFIRM of grade 2 or more clears TAGS UNCONFIRMED and asks the driver to clear JAMMED; an OPEN of the operate
grade puts a trip in flight from a closed state; a CLOSE in LOCKOUT or STANDBY closes through the gate or is answered
GATE with the recorded reason, and WRONG STATE elsewhere; STATUS reports position, hot-line mode, tags and sequence
state; a malformed ask is answered BAD ASK, with its selector when its seven bytes name a REMOVE or a CLEAR ORPHAN, a
low grade GRADE; and for an ask of any of the seven kinds a crew ID off the roster is answered NOT CREW. An ask of any
kind, or a malformed one, that is addressed to another station is neither answered nor counted as taken nor entered on
the dedupe list, and a duplicate repeats its kept answer and counts as a duplicate alone. None of the refused ones
changes more than the tag counters, the dedupe list and the outbox. Selector details of BAD ASK and NOT CREW are log
entry 18. (R166, R167, R171, R172, R56, R57, R73) -/
def Obligations.AsksOperateTheSwitch : Prop :=
  ∀ (s : State) (a : AskFrame) (grade : Nat),
    (AskOfCrew s .confirm a grade →
      ∃ t, exec (.confirmAsk a) s = .next (finish false s t) ∧ Only [.radio, .tags, .mech] s t ∧
        (grade < 2 →
          Answered s t (askRx .confirm a) 3 3 0 0 0 ∧ t.tags.unconfirmed = s.tags.unconfirmed ∧ t.mech = s.mech) ∧
        (2 ≤ grade →
          t.tags.unconfirmed = false ∧
          (s.mech.position ≠ .jammed → Answered s t (askRx .confirm a) 3 0 0 3 0 ∧ t.mech = s.mech) ∧
          (s.mech.position = .jammed → s.mech.contactOpen = s.mech.contactClosed →
            Answered s t (askRx .confirm a) 3 0 0 2 0 ∧ t.mech = s.mech) ∧
          (s.mech.position = .jammed → s.mech.contactOpen ≠ s.mech.contactClosed →
            Answered s t (askRx .confirm a) 3 0 0 1 0 ∧
              t.mech =
                { s.mech with
                  position := if s.mech.contactClosed then .closed else .opened
                  lastClosed := s.mech.contactClosed }))) ∧
    (AskOfCrew s .openAsk a grade →
      ∃ t, exec (.openAsk a) s = .next (finish false s t) ∧
        (grade < s.cfg.crew.operateGrade →
          Answered s t (askRx .openAsk a) 4 3 0 0 0 ∧ Only [.radio, .tags] s t) ∧
        (s.cfg.crew.operateGrade ≤ grade →
          Answered s t (askRx .openAsk a) 4 0 0 0 0 ∧
          (CanOpen s → OpenStarted s t ⟨false, true, false, false⟩) ∧
          (s.seq.phase = .lockout → s.cfg.identity.role ≠ .tie → Only [.radio, .tags] s t))) ∧
    (AskOfCrew s .closeAsk a grade →
      ∃ t, exec (.closeAsk a) s = .next (finish false s t) ∧
        (grade < s.cfg.crew.operateGrade →
          Answered s t (askRx .closeAsk a) 5 3 0 0 0 ∧ Only [.radio, .tags] s t) ∧
        (s.cfg.crew.operateGrade ≤ grade → s.seq.phase = .lockout ∨ s.seq.phase = .standby →
          (GatePasses s → s.mech.position = .opened →
            Answered s t (askRx .closeAsk a) 5 0 0 0 0 ∧ CloseStarted s t false) ∧
          (∀ r, s.gateReason = some r →
            Answered s t (askRx .closeAsk a) 5 11 0 r.code 0 ∧
              t.gate = some { reason := r, requester := .crew, time := s.clock.seconds } ∧
              Only [.radio, .tags, .gate] s t)) ∧
        (s.cfg.crew.operateGrade ≤ grade → s.seq.phase ≠ .lockout → s.seq.phase ≠ .standby →
          Answered s t (askRx .closeAsk a) 5 12 0 0 0 ∧ Only [.radio, .tags] s t)) ∧
    (AskOfCrew s .status a grade →
      ∃ t, exec (.statusAsk a) s = .next (finish false s t) ∧ Only [.radio, .tags] s t ∧
        Answered s t (askRx .status a) 6 0 0
          (s.mech.position.code * 64 + (if s.seq.hotLine then 32 else 0) + s.tags.present.length)
          (s.seqState.code * 16 + (s.tags.present.filter LocalTag.recalled).length)) ∧
    (∀ (f : RxFrame) (kind : Nat), AskTaken s f →
      (f.payload.length ≠ 7 ∨ 6 < byteAt f.payload 4 ∨ ¬ within 1 4 (byteAt f.payload 5) ∨
        (byteAt f.payload 4 = 0 ∧ byteAt f.payload 6 / 16 % 4 = 3)) →
      kind = (if f.payload.length < 5 ∨ 15 < byteAt f.payload 4 then 15 else byteAt f.payload 4) →
      ∃ t, exec (.badAsk f) s = .next (finish false s t) ∧ Only [.radio, .tags] s t ∧
        Answered s t f kind 1
          (if f.payload.length = 7 ∧ (byteAt f.payload 4 = 1 ∨ byteAt f.payload 4 = 2) then
             (if 128 ≤ byteAt f.payload 6 then 128 else 0) + byteAt f.payload 6 % 32
           else 0) 0 0 ∧ t.tags.slots = s.tags.slots ∧ t.tags.feeder = s.tags.feeder) ∧
    (∀ (kind : AskKind) (code : Nat) (c : Instr),
      (kind, code, c) ∈
        [(AskKind.place, 0, Instr.placeAsk a), (.remove, 1, .removeAsk a), (.clearOrphan, 2, .clearOrphanAsk a),
          (.confirm, 3, .confirmAsk a), (.openAsk, 4, .openAsk a), (.closeAsk, 5, .closeAsk a),
          (.status, 6, .statusAsk a)] →
      AskTaken s (askRx kind a) → within 1 4 a.grade.toNat → (kind = .place → a.operand.toNat / 16 % 4 ≠ 3) →
      (∀ e ∈ s.cfg.crew.roster, e.crewId ≠ a.crewId.toNat) →
      ∃ t, exec c s = .next (finish false s t) ∧ Only [.radio, .tags] s t ∧
        t.tags = { s.tags with asksTaken := t.tags.asksTaken, dedupe := t.tags.dedupe } ∧
        Answered s t (askRx kind a) code 2
          (if kind = .remove ∨ kind = .clearOrphan then
             (if 128 ≤ a.operand.toNat then 128 else 0) + a.operand.toNat % 32
           else 0) 0 0) ∧
    (∀ (bad f : RxFrame) (c : Instr),
      (f, c) ∈
        [(askRx .place a, Instr.placeAsk a), (askRx .remove a, .removeAsk a),
          (askRx .clearOrphan a, .clearOrphanAsk a), (askRx .confirm a, .confirmAsk a),
          (askRx .openAsk a, .openAsk a), (askRx .closeAsk a, .closeAsk a), (askRx .status a, .statusAsk a),
          (bad, .badAsk bad)] →
      Receiving s → FramePasses s 0x86 f → s.radio.windowSyncs < 32 →
      (2 ≤ f.payload.length → u16At f.payload 0 ≠ s.cfg.identity.address →
        exec c s = .next (finish false s { s with radio := radioAccepted s })) ∧
      (∀ known, (2 ≤ f.payload.length → u16At f.payload 0 = s.cfg.identity.address) →
        s.tags.dedupe.find? (fun x => x.handset = f.sender.toNat && x.seqNo = f.seqNo.toNat) = some known →
        ∃ t, exec c s = .next (finish false s t) ∧ Only [.radio, .tags] s t ∧
          t.tags = { s.tags with duplicateAsks := min (s.tags.duplicateAsks + 1) 65535 } ∧
          (s.loader.defaulted = false → s.radio.outbox.length < 8 →
            ∃ n ∈ t.radio.outbox, n.kind = .crewAnswer ∧ n.payload = known.answer)))

/-- A FRESH record not heard for 3 intervals becomes STALE and a STALE one not heard for 8 becomes LOST, which raises
PEER LOST and marks its tags ORPHAN; that before those times the commands change nothing is the model's choice (log
entry 2). The count reset timer at the reclaim time clears both counts and the pending loss and stops. A tie delay that
is served does nothing more without a qualifying report, and with one, a dead side cut off, the other side LIVE and
every gate check holding, puts the close in flight. At a TIE outside DEFAULTED operation each block at the Feeder
Coordinator keeps the tie delay of its dead side, starts it anew for another one, and stops it with no dead side or
outside STANDBY. While it is served, a qualifying report puts the close in flight when the gate passes; refused, the
station stays in STANDBY with the delay served and the refusal recorded with requester RESTORE, so that the next block
asks again. That the timer starts when COORDINATOR_BLOCK takes the block is log entry 26, and that a block waiting at a
measurement loss is taken while LOST too is the model's choice (log entry 51). (R78, R80, R81, R139, R140, R148, R152,
R155, R156, R157, R175) -/
def Obligations.PeerAndTieTimersExpire : Prop :=
  ∀ s : State, s.startUp = none →
    (∀ (slot : Fin 16) (p : Peer), s.peers.slots[slot.val]? = some (some p) →
      (p.freshness = .fresh →
        (p.lastHeard + 3 * p.interval ≤ s.clock.ms / 10 * 10 →
          exec (.peerStale slot) s =
            .next (finish false s
              { s with
                peers :=
                  { s.peers with
                    slots := s.peers.slots.set slot.val (some { p with freshness := .stale }) } })) ∧
        (s.clock.ms / 10 * 10 < p.lastHeard + 3 * p.interval →
          exec (.peerStale slot) s = .next (finish false s s))) ∧
      (p.freshness = .stale →
        (p.lastHeard + 8 * p.interval ≤ s.clock.ms / 10 * 10 →
          exec (.peerLost slot) s =
            .next (finish false s
              { s with
                peers :=
                  { s.peers with
                    slots := s.peers.slots.set slot.val (some { p with freshness := .lost }) }
                alarms := { s.alarms with flags := s.alarms.flags ||| 512#12 }
                tags :=
                  { s.tags with
                    feeder :=
                      s.tags.feeder.map fun x =>
                        x.map fun e => if e.holder = p.address then { e with orphan := true } else e } })) ∧
        (s.clock.ms / 10 * 10 < p.lastHeard + 8 * p.interval →
          exec (.peerLost slot) s = .next (finish false s s)))) ∧
    (∀ elapsed, s.coord.countReset = some elapsed → s.cfg.sequence.reclaim * 1000 ≤ elapsed →
      exec .countResetTimerExpiry s =
        .next (finish false s
          { s with
            seq := { s.seq with sectionalizeCount := 0, isolateCount := 0 }
            coord := { s.coord with pendingLoss := none, countReset := none } })) ∧
    (∀ side, s.coord.tie = some side → side.served = false → s.cfg.coordination.tieDelay * 1000 ≤ side.elapsed →
      ((∀ p ∈ s.peers.held, s.qualifies side.deadIsSource p = false) →
        exec .tieDelayServed s =
          .next (finish false s
            { s with coord := { s.coord with tie := some { side with served := true } } })) ∧
      (∀ p r, p ∈ s.peers.held → p.freshness ≠ .lost → p.isolation = some r → r.superseded = false →
        r.cutOff = (if side.deadIsSource then s.cfg.identity.sourceSegment else s.cfg.identity.loadSegment) →
        r.cutOff ≠ 0 → s.clock.ms / 10 * 10 ≤ r.heard + s.cfg.coordination.validity * 60000 →
        s.cfg.identity.role = .tie → s.loader.defaulted = false → s.seq.phase = .standby →
        s.meas.src.presence = (if side.deadIsSource then .dead else .live) →
        s.meas.load.presence = (if side.deadIsSource then .live else .dead) →
        GatePasses s → s.mech.position = .opened →
        ∃ t, exec .tieDelayServed s = .next (finish false s t) ∧
          Only [.seq, .coord, .oc, .mail, .mech, .energy, .battery] s t ∧ CloseStarted s t false)) ∧
    (∀ (p : Publication) (rest : List Publication), s.mail.coordinator = p :: rest → p.lossRuns = false →
      s.cfg.identity.role = .tie → s.loader.defaulted = false →
      let deadSide (source : Bool) : Prop :=
        s.seq.phase = .standby ∧ s.meas.src.presence = (if source then .dead else .live) ∧
          s.meas.load.presence = (if source then .live else .dead)
      let qualifies (source : Bool) (q : Peer) (r : IsolationReport) : Prop :=
        q ∈ s.peers.held ∧ q.freshness ≠ .lost ∧ q.isolation = some r ∧ r.superseded = false ∧
          r.cutOff = (if source then s.cfg.identity.sourceSegment else s.cfg.identity.loadSegment) ∧ r.cutOff ≠ 0 ∧
          s.clock.ms / 10 * 10 ≤ r.heard + s.cfg.coordination.validity * 60000
      let after (tie : Option TieDelay) : State :=
        { s with
          mail := { s.mail with coordinator := rest }
          coord :=
            { s.coord with
              tie := tie
              countReset :=
                if p.srcWas ≠ .live ∧ p.src = .live ∧ s.meas.src.presence = .live then some 0
                else s.coord.countReset } }
      (¬ deadSide true → ¬ deadSide false →
        exec .coordinatorBlock s = .next (finish false s (after none))) ∧
      (∀ source, deadSide source → (∀ x, s.coord.tie = some x → x.deadIsSource ≠ source) →
        exec .coordinatorBlock s =
          .next (finish false s (after (some { deadIsSource := source, elapsed := 0, served := false })))) ∧
      (∀ x, s.coord.tie = some x → deadSide x.deadIsSource →
        (x.served = false ∨ (∀ q r, ¬ qualifies x.deadIsSource q r) →
          exec .coordinatorBlock s = .next (finish false s (after (some x)))) ∧
        (∀ q r, x.served = true → qualifies x.deadIsSource q r →
          (GatePasses s → s.mech.position = .opened →
            ∃ t, exec .coordinatorBlock s = .next (finish false s t) ∧ CloseStarted s t false ∧
              Only [.seq, .coord, .oc, .mail, .mech, .energy, .battery] s t) ∧
          (∀ reason, s.gateReason = some reason →
            ∃ t, exec .coordinatorBlock s = .next (finish false s t) ∧ Only [.mail, .coord, .gate, .tags] s t ∧
              t.coord = (after (some x)).coord ∧ t.mail = (after (some x)).mail ∧
              t.gate = some { reason, requester := .restore, time := s.clock.seconds } ∧
              (reason ≠ .tag → t.tags = s.tags)))))

/-- At a MIDPOINT outside DEFAULTED operation a publication is a loss when the source went from LIVE to DEAD, and role,
position, sequence state and SOUND at the publication let the voltage-loss logic run. A loss within the section window
of the last pickup as of it counts toward sectionalizing at a non-protective station and nothing at a protective one; a
later one counts toward isolation when an upstream peer that is not LOST has reported FAULT within the isolate window,
and otherwise is kept as pending with its time. A count that reaches its setting opens a closed switch at rest with that
cause, starting an event where none is open, and in TRIPPING and RECLOSING joins its cause to the trip in hand or to the
held causes, starting the event there too (log entry 49). A block without a loss counts nothing and starts the count
reset timer when the source turns LIVE. That the conditions and the pickup time are stamped at the publication is log
entry 32, and that the timer starts when COORDINATOR_BLOCK takes it is log entry 26; that a publication waiting at a
measurement loss counts while LOST too is the model's choice (log entry 51). (R43, R56, R148, R149, R150, R151, R152) -/
def Obligations.LossesCountTowardOpening : Prop :=
  ∀ (s : State) (p : Publication) (rest : List Publication), s.startUp = none → s.mail.coordinator = p :: rest →
    s.cfg.identity.role = .midpoint → s.loader.defaulted = false →
    let loss := p.srcWas = .live ∧ p.src = .dead ∧ p.sound = true ∧ p.lossRuns = true
    let pickup :=
      match s.oc.lastPickup with
      | some time => if time ≤ p.time then some time else p.lastPickup
      | none => p.lastPickup
    let near := ∃ last, pickup = some last ∧ p.time ≤ last + s.cfg.coordination.sectionWindow
    ∃ t, exec .coordinatorBlock s = .next (finish false s t) ∧
      t.mail.coordinator = rest ∧ t.tags = s.tags ∧ t.peers = s.peers ∧
      (¬ loss →
        Only [.mail, .coord] s t ∧ t.coord.pendingLoss = s.coord.pendingLoss ∧
          t.coord.countReset =
            (if p.srcWas ≠ .live ∧ p.src = .live ∧ s.meas.src.presence = .live then some 0
             else s.coord.countReset)) ∧
      (loss → near →
        t.coord.pendingLoss = s.coord.pendingLoss ∧
        (s.cfg.identity.protectiveFlag = true → Only [.mail, .coord] s t) ∧
        (s.cfg.identity.protectiveFlag = false →
          let setting := s.cfg.coordination.sectionalizeCount
          t.seq.sectionalizeCount = min (s.seq.sectionalizeCount + 1) setting ∧
            t.seq.isolateCount = s.seq.isolateCount ∧
            (setting ≤ s.seq.sectionalizeCount + 1 → CanOpen s →
              OpenStarted s t ⟨false, false, true, false⟩ ∧ EventStarted s t) ∧
            (setting ≤ s.seq.sectionalizeCount + 1 → InOperation s → OpenJoined s t true false) ∧
            (s.seq.sectionalizeCount + 1 < setting →
              Only [.mail, .coord, .seq] s t ∧ t.seq.phase = s.seq.phase))) ∧
      (loss → ¬ near →
        let setting := s.cfg.coordination.isolateCount
        let supports (q : Peer) : Prop :=
          q.freshness ≠ .lost ∧ s.upstream q = true ∧
            ∃ r, q.fault = some r ∧ p.time ≤ r.heard + s.cfg.coordination.isolateWindow
        ((∃ q ∈ s.peers.held, supports q) →
          t.coord.pendingLoss = none ∧ t.seq.isolateCount = min (s.seq.isolateCount + 1) setting ∧
            t.seq.sectionalizeCount = s.seq.sectionalizeCount ∧
            (setting ≤ s.seq.isolateCount + 1 → CanOpen s →
              OpenStarted s t ⟨false, false, false, true⟩ ∧ EventStarted s t) ∧
            (setting ≤ s.seq.isolateCount + 1 → InOperation s → OpenJoined s t false true) ∧
            (s.seq.isolateCount + 1 < setting →
              Only [.mail, .coord, .seq] s t ∧ t.seq.phase = s.seq.phase)) ∧
        ((∀ q ∈ s.peers.held, ¬ supports q) →
          Only [.mail, .coord] s t ∧ t.coord.pendingLoss = some p.time))

/-- A key held ON for 50 ms without interruption, by the ms of the command, fills slot 0 with a HOT-LINE tag of the
panel grade read then and the next generation, offers TAG PLACED, and brings hot-line mode into force (LOCKOUT
HOT-LINE from DEAD and RECHARGE WAIT); held OFF it empties the slot and offers TAG REMOVED. OPEN puts a trip in flight
from a closed state, CLOSE in LOCKOUT or STANDBY closes through the gate or records the refusal (and counts the
blocking tags for reason TAG), CONFIRM clears TAGS UNCONFIRMED and, with the position JAMMED and the contacts
agreeing, makes position and last agreed position the reading, and releases only move the filtered level. A level that
has not held, or is the level taken with no other still to be taken, only moves its filter, so a button already down
makes no press. A level that had held before the one now there began to stand is taken first, as by a command of that
level, so a second press after an unseen 50 ms of release is a press. That the commands bring raw levels with the time
for which they have stood there is log entry 9. (R161, R162, R173, R58, R56, R57, R81, R171, R73) -/
def Obligations.PanelActsAfterItsFilter : Prop :=
  ∀ (s : State) (held : Nat), s.startUp = none →
    (∀ g, s.tags.keyOn = false → HasHeld s.tags.keyInput held 50 s.tags.keyOn → s.tags.slots.length = 8 →
      let generation := ((s.tags.slot 0).counter + 1) % 256
      ∃ t, exec (.hotLineKey true held g) s = .next (finish false s t) ∧
        Only [.tags, .radio, .seq, .coord, .oc, .mail, .log, .alarms] s t ∧ t.seq.hotLine = true ∧
        t.tags =
          { s.tags with
            keyOn := true, keyInput := ⟨true, none⟩, panelGrade := g
            slots :=
              s.tags.slots.set 0
                ⟨some
                    { kind := .hotLine, scope := .station, crewId := 0
                      grade := match g with | .one => 1 | .two => 2 | .three => 3 | .four => 4
                      generation, placed := s.clock.seconds, blocked := 0, recalled := false },
                  generation⟩ } ∧
        (s.loader.defaulted = false → s.radio.outbox.length < 8 →
          TagOffered s t false 0
            { kind := .hotLine, scope := .station, crewId := 0
              grade := match g with | .one => 1 | .two => 2 | .three => 3 | .four => 4
              generation, placed := s.clock.seconds, blocked := 0, recalled := false }) ∧
        (s.seq.hotLine = false → s.seq.phase = .dead ∨ s.seq.phase = .rechargeWait →
          t.seq.phase = .lockout ∧ t.seq.reason = some .hotLine)) ∧
    (∀ g tag, s.tags.keyOn = true → HasHeld s.tags.keyInput held 50 s.tags.keyOn → (s.tags.slot 0).tag = some tag →
      ∃ t, exec (.hotLineKey false held g) s = .next (finish false s t) ∧
        t.tags =
          { s.tags with
            keyOn := false, keyInput := ⟨false, none⟩, panelGrade := g
            slots := s.tags.slots.set 0 ⟨none, (s.tags.slot 0).counter⟩ } ∧
        t.seq.hotLine = t.hotLineCondition ∧
        (s.loader.defaulted = false → s.radio.outbox.length < 8 → TagOffered s t true 0 tag)) ∧
    (s.tags.openPressed = false → HasHeld s.tags.openInput held 50 s.tags.openPressed → CanOpen s →
      ∃ t, exec (.openButton held) s = .next (finish false s t) ∧
        t.tags = { s.tags with openPressed := true, openInput := ⟨true, none⟩ } ∧
        OpenStarted s t ⟨false, true, false, false⟩) ∧
    (s.tags.closePressed = false → HasHeld s.tags.closeInput held 50 s.tags.closePressed →
      s.seq.phase = .lockout ∨ s.seq.phase = .standby →
      (GatePasses s → s.mech.position = .opened →
        ∃ t, exec (.closeButton held) s = .next (finish false s t) ∧
          t.tags = { s.tags with closePressed := true, closeInput := ⟨true, none⟩ } ∧ CloseStarted s t false) ∧
      (∀ r, s.gateReason = some r → r ≠ .tag →
        exec (.closeButton held) s =
          .next (finish false s
            { s with
              tags := { s.tags with closePressed := true, closeInput := ⟨true, none⟩ }
              gate := some { reason := r, requester := .panel, time := s.clock.seconds } })) ∧
      (s.gateReason = some .tag →
        exec (.closeButton held) s =
          .next (finish false s
            { s with
              tags :=
                { s.tags with
                  closePressed := true, closeInput := ⟨true, none⟩
                  slots :=
                    s.tags.slots.map fun x =>
                      { x with
                        tag := x.tag.map fun y =>
                          if y.scope = .station ∨ s.scopeSegment y.scope ∈ s.targets then
                            { y with blocked := min (y.blocked + 1) 65535 }
                          else y }
                  feeder :=
                    s.tags.feeder.map fun x =>
                      x.map fun y =>
                        if y.segment ∈ s.targets then { y with blocked := min (y.blocked + 1) 65535 } else y }
              gate := some { reason := .tag, requester := .panel, time := s.clock.seconds } }))) ∧
    (s.tags.confirmPressed = false → HasHeld s.tags.confirmInput held 50 s.tags.confirmPressed → s.mech.position ≠ .jammed →
      exec (.confirmButton held) s =
        .next (finish false s
          { s with
            tags := { s.tags with confirmPressed := true, confirmInput := ⟨true, none⟩, unconfirmed := false } })) ∧
    (s.tags.confirmPressed = false → HasHeld s.tags.confirmInput held 50 s.tags.confirmPressed →
      s.mech.position = .jammed →
      exec (.confirmButton held) s =
        .next (finish false s
          { s with
            tags := { s.tags with confirmPressed := true, confirmInput := ⟨true, none⟩, unconfirmed := false }
            mech :=
              if s.mech.contactOpen = s.mech.contactClosed then s.mech
              else
                { s.mech with
                  position := if s.mech.contactClosed then .closed else .opened
                  lastClosed := s.mech.contactClosed } })) ∧
    (s.tags.openPressed = true → HasHeld s.tags.openInput held 50 s.tags.openPressed →
      exec (.buttonRelease .openButton held) s =
        .next (finish false s { s with tags := { s.tags with openPressed := false, openInput := ⟨false, none⟩ } })) ∧
    (s.tags.closePressed = true → HasHeld s.tags.closeInput held 50 s.tags.closePressed →
      exec (.buttonRelease .closeButton held) s =
        .next (finish false s { s with tags := { s.tags with closePressed := false, closeInput := ⟨false, none⟩ } })) ∧
    (s.tags.confirmPressed = true → HasHeld s.tags.confirmInput held 50 s.tags.confirmPressed →
      exec (.buttonRelease .confirmButton held) s =
        .next (finish false s
          { s with tags := { s.tags with confirmPressed := false, confirmInput := ⟨false, none⟩ } })) ∧
    (∀ on g, NotYet s.tags.keyInput on held 50 s.tags.keyOn →
      exec (.hotLineKey on held g) s =
        .next (finish false s
          { s with
            tags := { s.tags with keyInput := seenInput s.tags.keyInput on held s.tags.keyOn, panelGrade := g } })) ∧
    (∀ level,
      (NotYet s.tags.openInput level held 50 s.tags.openPressed →
        exec (if level then .openButton held else .buttonRelease .openButton held) s =
          .next (finish false s
            { s with
              tags := { s.tags with openInput := seenInput s.tags.openInput level held s.tags.openPressed } })) ∧
      (NotYet s.tags.closeInput level held 50 s.tags.closePressed →
        exec (if level then .closeButton held else .buttonRelease .closeButton held) s =
          .next (finish false s
            { s with
              tags := { s.tags with closeInput := seenInput s.tags.closeInput level held s.tags.closePressed } })) ∧
      (NotYet s.tags.confirmInput level held 50 s.tags.confirmPressed →
        exec (if level then .confirmButton held else .buttonRelease .confirmButton held) s =
          .next (finish false s
            { s with
              tags :=
                { s.tags with
                  confirmInput := seenInput s.tags.confirmInput level held s.tags.confirmPressed } }))) ∧
    (StillToTake s.tags.keyInput held 50 s.tags.keyOn →
      ∃ t, exec (.hotLineKey (!s.tags.keyOn) s.tags.keyInput.stood s.tags.panelGrade) s = .next t ∧
        t.tags.keyOn = !s.tags.keyOn ∧ t.tags.keyInput = ⟨!s.tags.keyOn, none⟩ ∧
        ∀ on g, exec (.hotLineKey on held g) s = exec (.hotLineKey on held g) t) ∧
    (
      let seen (b : Button) (press : Nat → Instr) (level : Bool) (ms : Nat) : Instr :=
        if level then press ms else .buttonRelease b ms
      (StillToTake s.tags.openInput held 50 s.tags.openPressed →
        ∃ t,
          exec (seen .openButton .openButton (!s.tags.openPressed) s.tags.openInput.stood) s = .next t ∧
          t.tags.openPressed = !s.tags.openPressed ∧ t.tags.openInput = ⟨!s.tags.openPressed, none⟩ ∧
          ∀ level,
            exec (seen .openButton .openButton level held) s =
              exec (seen .openButton .openButton level held) t) ∧
      (StillToTake s.tags.closeInput held 50 s.tags.closePressed →
        ∃ t,
          exec (seen .closeButton .closeButton (!s.tags.closePressed) s.tags.closeInput.stood) s = .next t ∧
          t.tags.closePressed = !s.tags.closePressed ∧ t.tags.closeInput = ⟨!s.tags.closePressed, none⟩ ∧
          ∀ level,
            exec (seen .closeButton .closeButton level held) s =
              exec (seen .closeButton .closeButton level held) t) ∧
      (StillToTake s.tags.confirmInput held 50 s.tags.confirmPressed →
        ∃ t,
          exec (seen .confirmButton .confirmButton (!s.tags.confirmPressed) s.tags.confirmInput.stood) s = .next t ∧
          t.tags.confirmPressed = !s.tags.confirmPressed ∧ t.tags.confirmInput = ⟨!s.tags.confirmPressed, none⟩ ∧
          ∀ level,
            exec (seen .confirmButton .confirmButton level held) s =
              exec (seen .confirmButton .confirmButton level held) t))

/-- A read of an idle port answers OK with its area, every field at its bytes as the tables of 10.3 and the lists of
R186 lay it out (the four of IDENTITY, STATUS, PEER, LOCAL TAG, FEEDER TAG, FAULT RECORD, COUNTERS), EMPTY for an
empty peer slot, feeder entry or record place, and BAD INDEX beyond the last index, counted as a port error; nothing
else of the machine changes. The release of chip select ends the transaction, and with no transaction it counts a port
error. The revision number in IDENTITY is some fixed number in 1..255 (log entry 5), and the bytes of an I1 below 0
are left open (log entry 6). These rows of STATUS are the model's own reading: the tie delay timer of a served delay
is sent as 0 (row 97, log entry 27), and a V0, V1, I1 or R that the last test did not work out is sent as 0 (rows 47
to 53, log entries 28 and 39). That one selection carries one request is log entry 17. (R185, R186,
10_records_alarm_line_and_maintenance_port.md) -/
def Obligations.PortReadsReturnAreas : Prop :=
  (∃ n, within 1 255 n ∧ ∀ s : State, s.startUp = none → s.port.transaction = .idle →
    exec (.identityRead 1#8) s =
      .next
        { s with port := { s.port with transaction := .taken [0#8, byte n, 0#8, 0#8, 0#8] none false } }) ∧
  ∀ s : State, s.startUp = none → s.port.transaction = .idle →
    (exec (.identityRead 0#8) s =
      .next { s with port := { s.port with transaction := .taken [0#8, 0x44#8, 0x10#8, 0#8, 0#8] none false } }) ∧
    (exec (.identityRead 2#8) s =
      .next
        { s with
          port :=
            { s.port with
              transaction := .taken (0#8 :: be16 s.loader.version ++ [0#8, 0#8]) none false } }) ∧
    (exec (.identityRead 3#8) s =
      .next
        { s with
          port :=
            { s.port with
              transaction :=
                .taken
                  (0#8 :: byte (mark s.loader.defaulted 0) :: byte s.loader.clampCount ::
                    be16 s.cfg.identity.address)
                  none false } }) ∧
    (∃ t area, exec (.statusRead 0#8) s = .next t ∧ Responded s t (0#8 :: area) ∧ Laid 128 (statusRows s) area) ∧
    (∀ index : Byte,
      (index.toNat < 16 →
        (s.peers.peerAt index.toNat = none →
          ∃ t, exec (.peerRead index) s = .next t ∧ Responded s t [1#8]) ∧
        (∀ p, s.peers.peerAt index.toNat = some p →
          ∃ t area, exec (.peerRead index) s = .next t ∧ Responded s t (0#8 :: area) ∧
            Laid 95 (peerRows (s.clock.ms / 10 * 10) p) area)) ∧
      (index.toNat < 8 →
        ∃ t area, exec (.localTagRead index) s = .next t ∧ Responded s t (0#8 :: area) ∧
          Laid 16 (localTagRows s (s.tags.slot index.toNat)) area) ∧
      (index.toNat < 24 →
        (s.tags.feeder.getD index.toNat none = none →
          ∃ t, exec (.feederTagRead index) s = .next t ∧ Responded s t [1#8]) ∧
        (∀ e, s.tags.feeder.getD index.toNat none = some e →
          ∃ t area, exec (.feederTagRead index) s = .next t ∧ Responded s t (0#8 :: area) ∧
            Laid 13 (feederTagRows e) area)) ∧
      (index.toNat < 32 →
        (s.log.records[index.toNat]? = none →
          ∃ t, exec (.faultRecordRead index) s = .next t ∧ Responded s t [1#8]) ∧
        (∀ r, s.log.records[index.toNat]? = some r →
          ∃ t area, exec (.faultRecordRead index) s = .next t ∧ Responded s t (0#8 :: area) ∧
            Laid 28 (faultRecordRows r) area))) ∧
    (∃ t area, exec (.countersRead 0#8) s = .next t ∧ Responded s t (0#8 :: area) ∧ Laid 67 (counterRows s) area) ∧
    (∀ c : Instr,
      (∃ index : Byte,
        (c = .identityRead index ∧ 3 < index.toNat) ∨ (c = .statusRead index ∧ index.toNat ≠ 0) ∨
        (c = .peerRead index ∧ 15 < index.toNat) ∨ (c = .localTagRead index ∧ 7 < index.toNat) ∨
        (c = .feederTagRead index ∧ 23 < index.toNat) ∨ (c = .faultRecordRead index ∧ 31 < index.toNat) ∨
        (c = .countersRead index ∧ index.toNat ≠ 0) ∨ (c = .causeRead index ∧ index.toNat ≠ 0)) →
      exec c s =
        .next
          { s with
            port :=
              { s.port with transaction := .taken [2#8] none false, errors := min (s.port.errors + 1) 65535 } }) ∧
    (∀ clocked, exec (.chipSelectRelease clocked) s =
      .next { s with port := { s.port with errors := min (s.port.errors + 1) 65535 } }) ∧
    (∀ (t : State) (response : List Byte) (clocked : Nat), t.port.transaction = .taken response none false →
      exec (.chipSelectRelease clocked) t = .next { t with port := { t.port with transaction := .idle } })

/-- With no cause both pending and enabled, a CAUSE read returns NONE and clears nothing. Otherwise it returns the one
of lowest priority number and clears just its flag. When its transaction ends with fewer than two bytes clocked out,
that flag is set pending again whatever was raised meanwhile, and otherwise the flags stay as they then are, so that a
raise after the snapshot stays pending. ALERT is low exactly while some cause is pending and enabled. (R183) -/
def Obligations.CauseReadTakesHighestPriority : Prop :=
  (∀ s : State, s.startUp = none → s.port.transaction = .idle →
    (s.alarms.flags &&& s.alarms.enables = 0#12 →
      exec (.causeRead 0#8) s =
        .next { s with port := { s.port with transaction := .taken [0#8, 0#8] none false } }) ∧
    (∀ k : Nat, k < 12 → (s.alarms.flags &&& s.alarms.enables).getLsbD k = true →
      (∀ j < k, (s.alarms.flags &&& s.alarms.enables).getLsbD j = false) →
      ∃ (c : Cause) (t : State), c.priority = k + 1 ∧ exec (.causeRead 0#8) s = .next t ∧ Only [.alarms, .port] s t ∧
        t.port.transaction = .taken [0#8, byte (k + 1)] (some c) false ∧ t.port.errors = s.port.errors ∧
        t.alarms.enables = s.alarms.enables ∧
        (∀ j, t.alarms.flags.getLsbD j = (s.alarms.flags.getLsbD j && decide (j ≠ k))))) ∧
  (∀ (t : State) (response : List Byte) (c : Cause) (clocked : Nat),
    t.port.transaction = .taken response (some c) false →
    (2 ≤ clocked →
      exec (.chipSelectRelease clocked) t = .next { t with port := { t.port with transaction := .idle } }) ∧
    (clocked < 2 →
      ∃ u, exec (.chipSelectRelease clocked) t = .next u ∧ Only [.alarms, .port] t u ∧
        u.port.transaction = .idle ∧ u.port.errors = t.port.errors ∧ u.alarms.enables = t.alarms.enables ∧
        ∀ j, u.alarms.flags.getLsbD j = (t.alarms.flags.getLsbD j || decide (j + 1 = c.priority)))) ∧
  (∀ s : State, s.startUp = none → (s.alertLow = true ↔
    ∃ k < 12, s.alarms.flags.getLsbD k = true ∧ s.alarms.enables.getLsbD k = true))

/-- At an idle port: TRIP is taken by the table of R56: it puts a trip in flight from a closed state, joins a trip in
flight, is held behind a close, locks out MANUAL from DEAD and RECHARGE WAIT, takes a TIE from LOCKOUT to STANDBY and
otherwise changes nothing; CLOSE closes through the gate (at once and with no coil on a switch already CLOSED), answers
GATE with the recorded reason, or answers WRONG STATE; TEST START starts a test, leaves it PENDING or answers IN
PROGRESS; TEST ABORT ends a test ABORTED with the retry timer started, stops a waiting retry, or answers NO TEST; SET
CLOCK sets the seconds counter and clears the sub-second count; ENABLE CAUSES replaces the twelve enables; RESTART is
accepted; an unknown code answers UNKNOWN and a wrong index on any of these seven commands BAD INDEX, each counted. That
SET CLOCK clears the part of a millisecond as well is log entry 1, and that TEST START reads the source presence of the
Measurement Unit at the check is log entry 30. (R187, R188, R195, R56, R57, R103, R104, R105, R107, R182, R185) -/
def Obligations.PortCommandsReachTheirOwners : Prop :=
  ∀ s : State, s.startUp = none → s.port.transaction = .idle →
    (CanOpen s →
      ∃ t, exec (.trip 0#8) s = .next (finish false s t) ∧ AnsweredAtPort t 0 0 ∧
        OpenStarted s t ⟨false, true, false, false⟩) ∧
    (s.seq.phase = .tripping → s.mech.operation = .trip → s.battery.test ≠ .running →
      exec (.trip 0#8) s =
        .next (finish false s
          { s with
            seq := { s.seq with causes := { s.seq.causes with manual := true } }
            port := { s.port with transaction := .taken [0#8, 0#8, 0#8] none false } })) ∧
    (s.seq.phase = .reclosing → s.mech.operation = .close → s.battery.test ≠ .running →
      exec (.trip 0#8) s =
        .next (finish false s
          { s with
            seq := { s.seq with heldCauses := { s.seq.heldCauses with manual := true } }
            mech := { s.mech with heldTrip := true }
            port := { s.port with transaction := .taken [0#8, 0#8, 0#8] none false } })) ∧
    (s.seq.phase = .dead ∨ s.seq.phase = .rechargeWait →
      ∃ t, exec (.trip 0#8) s = .next (finish false s t) ∧ AnsweredAtPort t 0 0 ∧ t.mech = s.mech ∧
        t.seq.phase = .lockout ∧ t.seq.reason = some .manual ∧ t.seq.deadTimer = none ∧ t.seq.waitTimer = none ∧
        eventEnded s t .lockout (some .manual)) ∧
    (s.seq.phase = .lockout ∨ s.seq.phase = .standby →
      ∃ t, exec (.trip 0#8) s = .next (finish false s t) ∧ AnsweredAtPort t 0 0 ∧ t.mech = s.mech ∧
        (s.seq.phase = .standby ∨ s.cfg.identity.role ≠ .tie → Only [.port] s t) ∧
        (s.seq.phase = .lockout → s.cfg.identity.role = .tie → t.seq.phase = .standby ∧ t.seq.reason = none)) ∧
    (s.seq.phase = .lockout ∨ s.seq.phase = .standby →
      (GatePasses s → s.mech.position = .opened →
        ∃ t, exec (.close 0#8) s = .next (finish false s t) ∧ AnsweredAtPort t 0 0 ∧ CloseStarted s t false) ∧
      (GatePasses s → s.mech.position = .closed →
        ∃ t, exec (.close 0#8) s = .next (finish false s t) ∧ AnsweredAtPort t 0 0 ∧ t.mech = s.mech ∧
          t.seq.phase = .reclaim ∧ t.seq.shot = s.planShots ∧ t.seq.reason = none ∧
          t.seq.reclaimTimer = some (s.cfg.sequence.reclaim * 1000)) ∧
      (∀ r, s.gateReason = some r →
        ∃ t, exec (.close 0#8) s = .next (finish false s t) ∧ AnsweredAtPort t 1 r.code ∧
          Only [.gate, .tags, .port] s t ∧
          t.gate = some { reason := r, requester := .maintenance, time := s.clock.seconds })) ∧
    (s.seq.phase ≠ .lockout → s.seq.phase ≠ .standby →
      ∃ t, exec (.close 0#8) s = .next (finish false s t) ∧ AnsweredAtPort t 2 0 ∧ Only [.port] s t) ∧
    (s.battery.test = .idle →
      (∀ g, TestMayStart s g →
        ∃ t, exec (.testStart 0#8) s = .next (finish false s t) ∧ AnsweredAtPort t 0 0 ∧
          Only [.battery, .port] s t ∧ testStarted s t g) ∧
      (TestMustWait s →
        ∃ t, exec (.testStart 0#8) s = .next (finish false s t) ∧ AnsweredAtPort t 0 0 ∧
          Only [.battery, .port] s t ∧ t.battery.test = .pending ∧ t.battery.pendingTimer = some 0)) ∧
    (s.battery.test ≠ .idle →
      ∃ t, exec (.testStart 0#8) s = .next (finish false s t) ∧ AnsweredAtPort t 3 0 ∧ Only [.port] s t) ∧
    (s.battery.test ≠ .idle →
      ∃ t, exec (.testAbort 0#8) s = .next (finish false s t) ∧ AnsweredAtPort t 0 0 ∧
        Only [.battery, .port] s t ∧ t.battery.test = .idle ∧ t.battery.last.result = .aborted ∧
        t.battery.retryTimer = some 0 ∧ t.battery.durationTimer = none ∧ t.battery.pendingTimer = none ∧
        t.testLoadOn = false) ∧
    (s.battery.test = .idle → s.battery.retryTimer = none →
      ∃ t, exec (.testAbort 0#8) s = .next (finish false s t) ∧ AnsweredAtPort t 4 0 ∧ Only [.port] s t) ∧
    (s.battery.test = .idle → s.battery.retryTimer ≠ none →
      ∃ t, exec (.testAbort 0#8) s = .next (finish false s t) ∧ AnsweredAtPort t 0 0 ∧
        t.battery = { s.battery with retryTimer := none }) ∧
    (∀ seconds : Word,
      exec (.setClock 0#8 seconds) s =
        .next
          { s with
            clock := { s.clock with seconds := seconds.toNat, subSecond := 0, subFraction := 0 }
            port := { s.port with transaction := .taken [0#8, 0#8, 0#8] none false } }) ∧
    (∀ mask : Half, ∃ t, exec (.enableCauses 0#8 mask) s = .next t ∧ Only [.alarms, .port] s t ∧
      AnsweredAtPort t 0 0 ∧ t.alarms.flags = s.alarms.flags ∧
      ∀ k < 12, t.alarms.enables.getLsbD k = mask.getLsbD k) ∧
    exec (.restart 0#8) s =
      .next { s with port := { s.port with transaction := .taken [0#8, 0#8, 0#8] none true } } ∧
    (∀ code index : Byte,
      exec (.unknownRequest code index) s =
        .next
          { s with
            port :=
              { s.port with transaction := .taken [3#8] none false, errors := min (s.port.errors + 1) 65535 } }) ∧
    (∀ (index : Byte) (seconds : Word) (mask : Half), index ≠ 0#8 →
      ∀ c ∈ ([.setClock index seconds, .enableCauses index mask, .restart index] : List Instr),
        exec c s =
          .next
            { s with
              port :=
                { s.port with transaction := .taken [2#8] none false, errors := min (s.port.errors + 1) 65535 } }) ∧
    (∀ (c : Instr) (index : Byte), index ≠ 0#8 →
      (c ∈ ([.trip index, .close index, .testStart index, .testAbort index] : List Instr)) →
      exec c s =
        .next (finish false s
          { s with
            port :=
              { s.port with transaction := .taken [2#8] none false, errors := min (s.port.errors + 1) 65535 } }))

/-- The state after a power-on satisfies every invariant of these statements. Some of the values it rests on are the
model's own before START (log entry 7). (R16, R40, R64, R82, R96, R113, R134, R159, R179) -/
def Obligations.InvariantsHoldAtReset : Prop :=
  SwitchInv State.reset ∧ OcInv State.reset.oc ∧ HotLineInv State.reset ∧ BatteryInv State.reset ∧
    OutboxInv State.reset.radio ∧ TablesInv State.reset ∧ PeersInv State.reset ∧ ClockInv State.reset.clock ∧
    StartingInv State.reset
end

