-- ==== Sys2Proof/Laws/State.lean ====
section
/-! SUPPORT. One lemma per part of the state and per update of a block. -/

namespace Sys2Proof.Machine

variable (s : State)

@[simp] theorem onLoader_pending (f : Loader → Loader) : (s.onLoader f).pending = s.pending := rfl
@[simp] theorem onLoader_startUp (f : Loader → Loader) : (s.onLoader f).startUp = s.startUp := rfl
@[simp] theorem onLoader_loader (f : Loader → Loader) : (s.onLoader f).loader = f s.loader := rfl
@[simp] theorem onLoader_clock (f : Loader → Loader) : (s.onLoader f).clock = s.clock := rfl
@[simp] theorem onLoader_meas (f : Loader → Loader) : (s.onLoader f).meas = s.meas := rfl
@[simp] theorem onLoader_mail (f : Loader → Loader) : (s.onLoader f).mail = s.mail := rfl
@[simp] theorem onLoader_oc (f : Loader → Loader) : (s.onLoader f).oc = s.oc := rfl
@[simp] theorem onLoader_seq (f : Loader → Loader) : (s.onLoader f).seq = s.seq := rfl
@[simp] theorem onLoader_mech (f : Loader → Loader) : (s.onLoader f).mech = s.mech := rfl
@[simp] theorem onLoader_gate (f : Loader → Loader) : (s.onLoader f).gate = s.gate := rfl
@[simp] theorem onLoader_energy (f : Loader → Loader) : (s.onLoader f).energy = s.energy := rfl
@[simp] theorem onLoader_battery (f : Loader → Loader) : (s.onLoader f).battery = s.battery := rfl
@[simp] theorem onLoader_radio (f : Loader → Loader) : (s.onLoader f).radio = s.radio := rfl
@[simp] theorem onLoader_peers (f : Loader → Loader) : (s.onLoader f).peers = s.peers := rfl
@[simp] theorem onLoader_coord (f : Loader → Loader) : (s.onLoader f).coord = s.coord := rfl
@[simp] theorem onLoader_tags (f : Loader → Loader) : (s.onLoader f).tags = s.tags := rfl
@[simp] theorem onLoader_log (f : Loader → Loader) : (s.onLoader f).log = s.log := rfl
@[simp] theorem onLoader_alarms (f : Loader → Loader) : (s.onLoader f).alarms = s.alarms := rfl
@[simp] theorem onLoader_port (f : Loader → Loader) : (s.onLoader f).port = s.port := rfl

@[simp] theorem onClock_pending (f : Clock → Clock) : (s.onClock f).pending = s.pending := rfl
@[simp] theorem onClock_startUp (f : Clock → Clock) : (s.onClock f).startUp = s.startUp := rfl
@[simp] theorem onClock_loader (f : Clock → Clock) : (s.onClock f).loader = s.loader := rfl
@[simp] theorem onClock_clock (f : Clock → Clock) : (s.onClock f).clock = f s.clock := rfl
@[simp] theorem onClock_meas (f : Clock → Clock) : (s.onClock f).meas = s.meas := rfl
@[simp] theorem onClock_mail (f : Clock → Clock) : (s.onClock f).mail = s.mail := rfl
@[simp] theorem onClock_oc (f : Clock → Clock) : (s.onClock f).oc = s.oc := rfl
@[simp] theorem onClock_seq (f : Clock → Clock) : (s.onClock f).seq = s.seq := rfl
@[simp] theorem onClock_mech (f : Clock → Clock) : (s.onClock f).mech = s.mech := rfl
@[simp] theorem onClock_gate (f : Clock → Clock) : (s.onClock f).gate = s.gate := rfl
@[simp] theorem onClock_energy (f : Clock → Clock) : (s.onClock f).energy = s.energy := rfl
@[simp] theorem onClock_battery (f : Clock → Clock) : (s.onClock f).battery = s.battery := rfl
@[simp] theorem onClock_radio (f : Clock → Clock) : (s.onClock f).radio = s.radio := rfl
@[simp] theorem onClock_peers (f : Clock → Clock) : (s.onClock f).peers = s.peers := rfl
@[simp] theorem onClock_coord (f : Clock → Clock) : (s.onClock f).coord = s.coord := rfl
@[simp] theorem onClock_tags (f : Clock → Clock) : (s.onClock f).tags = s.tags := rfl
@[simp] theorem onClock_log (f : Clock → Clock) : (s.onClock f).log = s.log := rfl
@[simp] theorem onClock_alarms (f : Clock → Clock) : (s.onClock f).alarms = s.alarms := rfl
@[simp] theorem onClock_port (f : Clock → Clock) : (s.onClock f).port = s.port := rfl

@[simp] theorem onMeas_pending (f : Meas → Meas) : (s.onMeas f).pending = s.pending := rfl
@[simp] theorem onMeas_startUp (f : Meas → Meas) : (s.onMeas f).startUp = s.startUp := rfl
@[simp] theorem onMeas_loader (f : Meas → Meas) : (s.onMeas f).loader = s.loader := rfl
@[simp] theorem onMeas_clock (f : Meas → Meas) : (s.onMeas f).clock = s.clock := rfl
@[simp] theorem onMeas_meas (f : Meas → Meas) : (s.onMeas f).meas = f s.meas := rfl
@[simp] theorem onMeas_mail (f : Meas → Meas) : (s.onMeas f).mail = s.mail := rfl
@[simp] theorem onMeas_oc (f : Meas → Meas) : (s.onMeas f).oc = s.oc := rfl
@[simp] theorem onMeas_seq (f : Meas → Meas) : (s.onMeas f).seq = s.seq := rfl
@[simp] theorem onMeas_mech (f : Meas → Meas) : (s.onMeas f).mech = s.mech := rfl
@[simp] theorem onMeas_gate (f : Meas → Meas) : (s.onMeas f).gate = s.gate := rfl
@[simp] theorem onMeas_energy (f : Meas → Meas) : (s.onMeas f).energy = s.energy := rfl
@[simp] theorem onMeas_battery (f : Meas → Meas) : (s.onMeas f).battery = s.battery := rfl
@[simp] theorem onMeas_radio (f : Meas → Meas) : (s.onMeas f).radio = s.radio := rfl
@[simp] theorem onMeas_peers (f : Meas → Meas) : (s.onMeas f).peers = s.peers := rfl
@[simp] theorem onMeas_coord (f : Meas → Meas) : (s.onMeas f).coord = s.coord := rfl
@[simp] theorem onMeas_tags (f : Meas → Meas) : (s.onMeas f).tags = s.tags := rfl
@[simp] theorem onMeas_log (f : Meas → Meas) : (s.onMeas f).log = s.log := rfl
@[simp] theorem onMeas_alarms (f : Meas → Meas) : (s.onMeas f).alarms = s.alarms := rfl
@[simp] theorem onMeas_port (f : Meas → Meas) : (s.onMeas f).port = s.port := rfl

@[simp] theorem onMail_pending (f : Mail → Mail) : (s.onMail f).pending = s.pending := rfl
@[simp] theorem onMail_startUp (f : Mail → Mail) : (s.onMail f).startUp = s.startUp := rfl
@[simp] theorem onMail_loader (f : Mail → Mail) : (s.onMail f).loader = s.loader := rfl
@[simp] theorem onMail_clock (f : Mail → Mail) : (s.onMail f).clock = s.clock := rfl
@[simp] theorem onMail_meas (f : Mail → Mail) : (s.onMail f).meas = s.meas := rfl
@[simp] theorem onMail_mail (f : Mail → Mail) : (s.onMail f).mail = f s.mail := rfl
@[simp] theorem onMail_oc (f : Mail → Mail) : (s.onMail f).oc = s.oc := rfl
@[simp] theorem onMail_seq (f : Mail → Mail) : (s.onMail f).seq = s.seq := rfl
@[simp] theorem onMail_mech (f : Mail → Mail) : (s.onMail f).mech = s.mech := rfl
@[simp] theorem onMail_gate (f : Mail → Mail) : (s.onMail f).gate = s.gate := rfl
@[simp] theorem onMail_energy (f : Mail → Mail) : (s.onMail f).energy = s.energy := rfl
@[simp] theorem onMail_battery (f : Mail → Mail) : (s.onMail f).battery = s.battery := rfl
@[simp] theorem onMail_radio (f : Mail → Mail) : (s.onMail f).radio = s.radio := rfl
@[simp] theorem onMail_peers (f : Mail → Mail) : (s.onMail f).peers = s.peers := rfl
@[simp] theorem onMail_coord (f : Mail → Mail) : (s.onMail f).coord = s.coord := rfl
@[simp] theorem onMail_tags (f : Mail → Mail) : (s.onMail f).tags = s.tags := rfl
@[simp] theorem onMail_log (f : Mail → Mail) : (s.onMail f).log = s.log := rfl
@[simp] theorem onMail_alarms (f : Mail → Mail) : (s.onMail f).alarms = s.alarms := rfl
@[simp] theorem onMail_port (f : Mail → Mail) : (s.onMail f).port = s.port := rfl

@[simp] theorem onOc_pending (f : Oc → Oc) : (s.onOc f).pending = s.pending := rfl
@[simp] theorem onOc_startUp (f : Oc → Oc) : (s.onOc f).startUp = s.startUp := rfl
@[simp] theorem onOc_loader (f : Oc → Oc) : (s.onOc f).loader = s.loader := rfl
@[simp] theorem onOc_clock (f : Oc → Oc) : (s.onOc f).clock = s.clock := rfl
@[simp] theorem onOc_meas (f : Oc → Oc) : (s.onOc f).meas = s.meas := rfl
@[simp] theorem onOc_mail (f : Oc → Oc) : (s.onOc f).mail = s.mail := rfl
@[simp] theorem onOc_oc (f : Oc → Oc) : (s.onOc f).oc = f s.oc := rfl
@[simp] theorem onOc_seq (f : Oc → Oc) : (s.onOc f).seq = s.seq := rfl
@[simp] theorem onOc_mech (f : Oc → Oc) : (s.onOc f).mech = s.mech := rfl
@[simp] theorem onOc_gate (f : Oc → Oc) : (s.onOc f).gate = s.gate := rfl
@[simp] theorem onOc_energy (f : Oc → Oc) : (s.onOc f).energy = s.energy := rfl
@[simp] theorem onOc_battery (f : Oc → Oc) : (s.onOc f).battery = s.battery := rfl
@[simp] theorem onOc_radio (f : Oc → Oc) : (s.onOc f).radio = s.radio := rfl
@[simp] theorem onOc_peers (f : Oc → Oc) : (s.onOc f).peers = s.peers := rfl
@[simp] theorem onOc_coord (f : Oc → Oc) : (s.onOc f).coord = s.coord := rfl
@[simp] theorem onOc_tags (f : Oc → Oc) : (s.onOc f).tags = s.tags := rfl
@[simp] theorem onOc_log (f : Oc → Oc) : (s.onOc f).log = s.log := rfl
@[simp] theorem onOc_alarms (f : Oc → Oc) : (s.onOc f).alarms = s.alarms := rfl
@[simp] theorem onOc_port (f : Oc → Oc) : (s.onOc f).port = s.port := rfl

@[simp] theorem onSeq_pending (f : Seq → Seq) : (s.onSeq f).pending = s.pending := rfl
@[simp] theorem onSeq_startUp (f : Seq → Seq) : (s.onSeq f).startUp = s.startUp := rfl
@[simp] theorem onSeq_loader (f : Seq → Seq) : (s.onSeq f).loader = s.loader := rfl
@[simp] theorem onSeq_clock (f : Seq → Seq) : (s.onSeq f).clock = s.clock := rfl
@[simp] theorem onSeq_meas (f : Seq → Seq) : (s.onSeq f).meas = s.meas := rfl
@[simp] theorem onSeq_mail (f : Seq → Seq) : (s.onSeq f).mail = s.mail := rfl
@[simp] theorem onSeq_oc (f : Seq → Seq) : (s.onSeq f).oc = s.oc := rfl
@[simp] theorem onSeq_seq (f : Seq → Seq) : (s.onSeq f).seq = f s.seq := rfl
@[simp] theorem onSeq_mech (f : Seq → Seq) : (s.onSeq f).mech = s.mech := rfl
@[simp] theorem onSeq_gate (f : Seq → Seq) : (s.onSeq f).gate = s.gate := rfl
@[simp] theorem onSeq_energy (f : Seq → Seq) : (s.onSeq f).energy = s.energy := rfl
@[simp] theorem onSeq_battery (f : Seq → Seq) : (s.onSeq f).battery = s.battery := rfl
@[simp] theorem onSeq_radio (f : Seq → Seq) : (s.onSeq f).radio = s.radio := rfl
@[simp] theorem onSeq_peers (f : Seq → Seq) : (s.onSeq f).peers = s.peers := rfl
@[simp] theorem onSeq_coord (f : Seq → Seq) : (s.onSeq f).coord = s.coord := rfl
@[simp] theorem onSeq_tags (f : Seq → Seq) : (s.onSeq f).tags = s.tags := rfl
@[simp] theorem onSeq_log (f : Seq → Seq) : (s.onSeq f).log = s.log := rfl
@[simp] theorem onSeq_alarms (f : Seq → Seq) : (s.onSeq f).alarms = s.alarms := rfl
@[simp] theorem onSeq_port (f : Seq → Seq) : (s.onSeq f).port = s.port := rfl

@[simp] theorem onMech_pending (f : Mech → Mech) : (s.onMech f).pending = s.pending := rfl
@[simp] theorem onMech_startUp (f : Mech → Mech) : (s.onMech f).startUp = s.startUp := rfl
@[simp] theorem onMech_loader (f : Mech → Mech) : (s.onMech f).loader = s.loader := rfl
@[simp] theorem onMech_clock (f : Mech → Mech) : (s.onMech f).clock = s.clock := rfl
@[simp] theorem onMech_meas (f : Mech → Mech) : (s.onMech f).meas = s.meas := rfl
@[simp] theorem onMech_mail (f : Mech → Mech) : (s.onMech f).mail = s.mail := rfl
@[simp] theorem onMech_oc (f : Mech → Mech) : (s.onMech f).oc = s.oc := rfl
@[simp] theorem onMech_seq (f : Mech → Mech) : (s.onMech f).seq = s.seq := rfl
@[simp] theorem onMech_mech (f : Mech → Mech) : (s.onMech f).mech = f s.mech := rfl
@[simp] theorem onMech_gate (f : Mech → Mech) : (s.onMech f).gate = s.gate := rfl
@[simp] theorem onMech_energy (f : Mech → Mech) : (s.onMech f).energy = s.energy := rfl
@[simp] theorem onMech_battery (f : Mech → Mech) : (s.onMech f).battery = s.battery := rfl
@[simp] theorem onMech_radio (f : Mech → Mech) : (s.onMech f).radio = s.radio := rfl
@[simp] theorem onMech_peers (f : Mech → Mech) : (s.onMech f).peers = s.peers := rfl
@[simp] theorem onMech_coord (f : Mech → Mech) : (s.onMech f).coord = s.coord := rfl
@[simp] theorem onMech_tags (f : Mech → Mech) : (s.onMech f).tags = s.tags := rfl
@[simp] theorem onMech_log (f : Mech → Mech) : (s.onMech f).log = s.log := rfl
@[simp] theorem onMech_alarms (f : Mech → Mech) : (s.onMech f).alarms = s.alarms := rfl
@[simp] theorem onMech_port (f : Mech → Mech) : (s.onMech f).port = s.port := rfl

@[simp] theorem onGate_pending (f : Option Refused → Option Refused) : (s.onGate f).pending = s.pending := rfl
@[simp] theorem onGate_startUp (f : Option Refused → Option Refused) : (s.onGate f).startUp = s.startUp := rfl
@[simp] theorem onGate_loader (f : Option Refused → Option Refused) : (s.onGate f).loader = s.loader := rfl
@[simp] theorem onGate_clock (f : Option Refused → Option Refused) : (s.onGate f).clock = s.clock := rfl
@[simp] theorem onGate_meas (f : Option Refused → Option Refused) : (s.onGate f).meas = s.meas := rfl
@[simp] theorem onGate_mail (f : Option Refused → Option Refused) : (s.onGate f).mail = s.mail := rfl
@[simp] theorem onGate_oc (f : Option Refused → Option Refused) : (s.onGate f).oc = s.oc := rfl
@[simp] theorem onGate_seq (f : Option Refused → Option Refused) : (s.onGate f).seq = s.seq := rfl
@[simp] theorem onGate_mech (f : Option Refused → Option Refused) : (s.onGate f).mech = s.mech := rfl
@[simp] theorem onGate_gate (f : Option Refused → Option Refused) : (s.onGate f).gate = f s.gate := rfl
@[simp] theorem onGate_energy (f : Option Refused → Option Refused) : (s.onGate f).energy = s.energy := rfl
@[simp] theorem onGate_battery (f : Option Refused → Option Refused) : (s.onGate f).battery = s.battery := rfl
@[simp] theorem onGate_radio (f : Option Refused → Option Refused) : (s.onGate f).radio = s.radio := rfl
@[simp] theorem onGate_peers (f : Option Refused → Option Refused) : (s.onGate f).peers = s.peers := rfl
@[simp] theorem onGate_coord (f : Option Refused → Option Refused) : (s.onGate f).coord = s.coord := rfl
@[simp] theorem onGate_tags (f : Option Refused → Option Refused) : (s.onGate f).tags = s.tags := rfl
@[simp] theorem onGate_log (f : Option Refused → Option Refused) : (s.onGate f).log = s.log := rfl
@[simp] theorem onGate_alarms (f : Option Refused → Option Refused) : (s.onGate f).alarms = s.alarms := rfl
@[simp] theorem onGate_port (f : Option Refused → Option Refused) : (s.onGate f).port = s.port := rfl

@[simp] theorem onEnergy_pending (f : Energy → Energy) : (s.onEnergy f).pending = s.pending := rfl
@[simp] theorem onEnergy_startUp (f : Energy → Energy) : (s.onEnergy f).startUp = s.startUp := rfl
@[simp] theorem onEnergy_loader (f : Energy → Energy) : (s.onEnergy f).loader = s.loader := rfl
@[simp] theorem onEnergy_clock (f : Energy → Energy) : (s.onEnergy f).clock = s.clock := rfl
@[simp] theorem onEnergy_meas (f : Energy → Energy) : (s.onEnergy f).meas = s.meas := rfl
@[simp] theorem onEnergy_mail (f : Energy → Energy) : (s.onEnergy f).mail = s.mail := rfl
@[simp] theorem onEnergy_oc (f : Energy → Energy) : (s.onEnergy f).oc = s.oc := rfl
@[simp] theorem onEnergy_seq (f : Energy → Energy) : (s.onEnergy f).seq = s.seq := rfl
@[simp] theorem onEnergy_mech (f : Energy → Energy) : (s.onEnergy f).mech = s.mech := rfl
@[simp] theorem onEnergy_gate (f : Energy → Energy) : (s.onEnergy f).gate = s.gate := rfl
@[simp] theorem onEnergy_energy (f : Energy → Energy) : (s.onEnergy f).energy = f s.energy := rfl
@[simp] theorem onEnergy_battery (f : Energy → Energy) : (s.onEnergy f).battery = s.battery := rfl
@[simp] theorem onEnergy_radio (f : Energy → Energy) : (s.onEnergy f).radio = s.radio := rfl
@[simp] theorem onEnergy_peers (f : Energy → Energy) : (s.onEnergy f).peers = s.peers := rfl
@[simp] theorem onEnergy_coord (f : Energy → Energy) : (s.onEnergy f).coord = s.coord := rfl
@[simp] theorem onEnergy_tags (f : Energy → Energy) : (s.onEnergy f).tags = s.tags := rfl
@[simp] theorem onEnergy_log (f : Energy → Energy) : (s.onEnergy f).log = s.log := rfl
@[simp] theorem onEnergy_alarms (f : Energy → Energy) : (s.onEnergy f).alarms = s.alarms := rfl
@[simp] theorem onEnergy_port (f : Energy → Energy) : (s.onEnergy f).port = s.port := rfl

@[simp] theorem onBattery_pending (f : Battery → Battery) : (s.onBattery f).pending = s.pending := rfl
@[simp] theorem onBattery_startUp (f : Battery → Battery) : (s.onBattery f).startUp = s.startUp := rfl
@[simp] theorem onBattery_loader (f : Battery → Battery) : (s.onBattery f).loader = s.loader := rfl
@[simp] theorem onBattery_clock (f : Battery → Battery) : (s.onBattery f).clock = s.clock := rfl
@[simp] theorem onBattery_meas (f : Battery → Battery) : (s.onBattery f).meas = s.meas := rfl
@[simp] theorem onBattery_mail (f : Battery → Battery) : (s.onBattery f).mail = s.mail := rfl
@[simp] theorem onBattery_oc (f : Battery → Battery) : (s.onBattery f).oc = s.oc := rfl
@[simp] theorem onBattery_seq (f : Battery → Battery) : (s.onBattery f).seq = s.seq := rfl
@[simp] theorem onBattery_mech (f : Battery → Battery) : (s.onBattery f).mech = s.mech := rfl
@[simp] theorem onBattery_gate (f : Battery → Battery) : (s.onBattery f).gate = s.gate := rfl
@[simp] theorem onBattery_energy (f : Battery → Battery) : (s.onBattery f).energy = s.energy := rfl
@[simp] theorem onBattery_battery (f : Battery → Battery) : (s.onBattery f).battery = f s.battery := rfl
@[simp] theorem onBattery_radio (f : Battery → Battery) : (s.onBattery f).radio = s.radio := rfl
@[simp] theorem onBattery_peers (f : Battery → Battery) : (s.onBattery f).peers = s.peers := rfl
@[simp] theorem onBattery_coord (f : Battery → Battery) : (s.onBattery f).coord = s.coord := rfl
@[simp] theorem onBattery_tags (f : Battery → Battery) : (s.onBattery f).tags = s.tags := rfl
@[simp] theorem onBattery_log (f : Battery → Battery) : (s.onBattery f).log = s.log := rfl
@[simp] theorem onBattery_alarms (f : Battery → Battery) : (s.onBattery f).alarms = s.alarms := rfl
@[simp] theorem onBattery_port (f : Battery → Battery) : (s.onBattery f).port = s.port := rfl

@[simp] theorem onRadio_pending (f : Radio → Radio) : (s.onRadio f).pending = s.pending := rfl
@[simp] theorem onRadio_startUp (f : Radio → Radio) : (s.onRadio f).startUp = s.startUp := rfl
@[simp] theorem onRadio_loader (f : Radio → Radio) : (s.onRadio f).loader = s.loader := rfl
@[simp] theorem onRadio_clock (f : Radio → Radio) : (s.onRadio f).clock = s.clock := rfl
@[simp] theorem onRadio_meas (f : Radio → Radio) : (s.onRadio f).meas = s.meas := rfl
@[simp] theorem onRadio_mail (f : Radio → Radio) : (s.onRadio f).mail = s.mail := rfl
@[simp] theorem onRadio_oc (f : Radio → Radio) : (s.onRadio f).oc = s.oc := rfl
@[simp] theorem onRadio_seq (f : Radio → Radio) : (s.onRadio f).seq = s.seq := rfl
@[simp] theorem onRadio_mech (f : Radio → Radio) : (s.onRadio f).mech = s.mech := rfl
@[simp] theorem onRadio_gate (f : Radio → Radio) : (s.onRadio f).gate = s.gate := rfl
@[simp] theorem onRadio_energy (f : Radio → Radio) : (s.onRadio f).energy = s.energy := rfl
@[simp] theorem onRadio_battery (f : Radio → Radio) : (s.onRadio f).battery = s.battery := rfl
@[simp] theorem onRadio_radio (f : Radio → Radio) : (s.onRadio f).radio = f s.radio := rfl
@[simp] theorem onRadio_peers (f : Radio → Radio) : (s.onRadio f).peers = s.peers := rfl
@[simp] theorem onRadio_coord (f : Radio → Radio) : (s.onRadio f).coord = s.coord := rfl
@[simp] theorem onRadio_tags (f : Radio → Radio) : (s.onRadio f).tags = s.tags := rfl
@[simp] theorem onRadio_log (f : Radio → Radio) : (s.onRadio f).log = s.log := rfl
@[simp] theorem onRadio_alarms (f : Radio → Radio) : (s.onRadio f).alarms = s.alarms := rfl
@[simp] theorem onRadio_port (f : Radio → Radio) : (s.onRadio f).port = s.port := rfl

@[simp] theorem onPeers_pending (f : PeerTable → PeerTable) : (s.onPeers f).pending = s.pending := rfl
@[simp] theorem onPeers_startUp (f : PeerTable → PeerTable) : (s.onPeers f).startUp = s.startUp := rfl
@[simp] theorem onPeers_loader (f : PeerTable → PeerTable) : (s.onPeers f).loader = s.loader := rfl
@[simp] theorem onPeers_clock (f : PeerTable → PeerTable) : (s.onPeers f).clock = s.clock := rfl
@[simp] theorem onPeers_meas (f : PeerTable → PeerTable) : (s.onPeers f).meas = s.meas := rfl
@[simp] theorem onPeers_mail (f : PeerTable → PeerTable) : (s.onPeers f).mail = s.mail := rfl
@[simp] theorem onPeers_oc (f : PeerTable → PeerTable) : (s.onPeers f).oc = s.oc := rfl
@[simp] theorem onPeers_seq (f : PeerTable → PeerTable) : (s.onPeers f).seq = s.seq := rfl
@[simp] theorem onPeers_mech (f : PeerTable → PeerTable) : (s.onPeers f).mech = s.mech := rfl
@[simp] theorem onPeers_gate (f : PeerTable → PeerTable) : (s.onPeers f).gate = s.gate := rfl
@[simp] theorem onPeers_energy (f : PeerTable → PeerTable) : (s.onPeers f).energy = s.energy := rfl
@[simp] theorem onPeers_battery (f : PeerTable → PeerTable) : (s.onPeers f).battery = s.battery := rfl
@[simp] theorem onPeers_radio (f : PeerTable → PeerTable) : (s.onPeers f).radio = s.radio := rfl
@[simp] theorem onPeers_peers (f : PeerTable → PeerTable) : (s.onPeers f).peers = f s.peers := rfl
@[simp] theorem onPeers_coord (f : PeerTable → PeerTable) : (s.onPeers f).coord = s.coord := rfl
@[simp] theorem onPeers_tags (f : PeerTable → PeerTable) : (s.onPeers f).tags = s.tags := rfl
@[simp] theorem onPeers_log (f : PeerTable → PeerTable) : (s.onPeers f).log = s.log := rfl
@[simp] theorem onPeers_alarms (f : PeerTable → PeerTable) : (s.onPeers f).alarms = s.alarms := rfl
@[simp] theorem onPeers_port (f : PeerTable → PeerTable) : (s.onPeers f).port = s.port := rfl

@[simp] theorem onCoord_pending (f : Coordination → Coordination) : (s.onCoord f).pending = s.pending := rfl
@[simp] theorem onCoord_startUp (f : Coordination → Coordination) : (s.onCoord f).startUp = s.startUp := rfl
@[simp] theorem onCoord_loader (f : Coordination → Coordination) : (s.onCoord f).loader = s.loader := rfl
@[simp] theorem onCoord_clock (f : Coordination → Coordination) : (s.onCoord f).clock = s.clock := rfl
@[simp] theorem onCoord_meas (f : Coordination → Coordination) : (s.onCoord f).meas = s.meas := rfl
@[simp] theorem onCoord_mail (f : Coordination → Coordination) : (s.onCoord f).mail = s.mail := rfl
@[simp] theorem onCoord_oc (f : Coordination → Coordination) : (s.onCoord f).oc = s.oc := rfl
@[simp] theorem onCoord_seq (f : Coordination → Coordination) : (s.onCoord f).seq = s.seq := rfl
@[simp] theorem onCoord_mech (f : Coordination → Coordination) : (s.onCoord f).mech = s.mech := rfl
@[simp] theorem onCoord_gate (f : Coordination → Coordination) : (s.onCoord f).gate = s.gate := rfl
@[simp] theorem onCoord_energy (f : Coordination → Coordination) : (s.onCoord f).energy = s.energy := rfl
@[simp] theorem onCoord_battery (f : Coordination → Coordination) : (s.onCoord f).battery = s.battery := rfl
@[simp] theorem onCoord_radio (f : Coordination → Coordination) : (s.onCoord f).radio = s.radio := rfl
@[simp] theorem onCoord_peers (f : Coordination → Coordination) : (s.onCoord f).peers = s.peers := rfl
@[simp] theorem onCoord_coord (f : Coordination → Coordination) : (s.onCoord f).coord = f s.coord := rfl
@[simp] theorem onCoord_tags (f : Coordination → Coordination) : (s.onCoord f).tags = s.tags := rfl
@[simp] theorem onCoord_log (f : Coordination → Coordination) : (s.onCoord f).log = s.log := rfl
@[simp] theorem onCoord_alarms (f : Coordination → Coordination) : (s.onCoord f).alarms = s.alarms := rfl
@[simp] theorem onCoord_port (f : Coordination → Coordination) : (s.onCoord f).port = s.port := rfl

@[simp] theorem onTags_pending (f : Tags → Tags) : (s.onTags f).pending = s.pending := rfl
@[simp] theorem onTags_startUp (f : Tags → Tags) : (s.onTags f).startUp = s.startUp := rfl
@[simp] theorem onTags_loader (f : Tags → Tags) : (s.onTags f).loader = s.loader := rfl
@[simp] theorem onTags_clock (f : Tags → Tags) : (s.onTags f).clock = s.clock := rfl
@[simp] theorem onTags_meas (f : Tags → Tags) : (s.onTags f).meas = s.meas := rfl
@[simp] theorem onTags_mail (f : Tags → Tags) : (s.onTags f).mail = s.mail := rfl
@[simp] theorem onTags_oc (f : Tags → Tags) : (s.onTags f).oc = s.oc := rfl
@[simp] theorem onTags_seq (f : Tags → Tags) : (s.onTags f).seq = s.seq := rfl
@[simp] theorem onTags_mech (f : Tags → Tags) : (s.onTags f).mech = s.mech := rfl
@[simp] theorem onTags_gate (f : Tags → Tags) : (s.onTags f).gate = s.gate := rfl
@[simp] theorem onTags_energy (f : Tags → Tags) : (s.onTags f).energy = s.energy := rfl
@[simp] theorem onTags_battery (f : Tags → Tags) : (s.onTags f).battery = s.battery := rfl
@[simp] theorem onTags_radio (f : Tags → Tags) : (s.onTags f).radio = s.radio := rfl
@[simp] theorem onTags_peers (f : Tags → Tags) : (s.onTags f).peers = s.peers := rfl
@[simp] theorem onTags_coord (f : Tags → Tags) : (s.onTags f).coord = s.coord := rfl
@[simp] theorem onTags_tags (f : Tags → Tags) : (s.onTags f).tags = f s.tags := rfl
@[simp] theorem onTags_log (f : Tags → Tags) : (s.onTags f).log = s.log := rfl
@[simp] theorem onTags_alarms (f : Tags → Tags) : (s.onTags f).alarms = s.alarms := rfl
@[simp] theorem onTags_port (f : Tags → Tags) : (s.onTags f).port = s.port := rfl

@[simp] theorem onLog_pending (f : Log → Log) : (s.onLog f).pending = s.pending := rfl
@[simp] theorem onLog_startUp (f : Log → Log) : (s.onLog f).startUp = s.startUp := rfl
@[simp] theorem onLog_loader (f : Log → Log) : (s.onLog f).loader = s.loader := rfl
@[simp] theorem onLog_clock (f : Log → Log) : (s.onLog f).clock = s.clock := rfl
@[simp] theorem onLog_meas (f : Log → Log) : (s.onLog f).meas = s.meas := rfl
@[simp] theorem onLog_mail (f : Log → Log) : (s.onLog f).mail = s.mail := rfl
@[simp] theorem onLog_oc (f : Log → Log) : (s.onLog f).oc = s.oc := rfl
@[simp] theorem onLog_seq (f : Log → Log) : (s.onLog f).seq = s.seq := rfl
@[simp] theorem onLog_mech (f : Log → Log) : (s.onLog f).mech = s.mech := rfl
@[simp] theorem onLog_gate (f : Log → Log) : (s.onLog f).gate = s.gate := rfl
@[simp] theorem onLog_energy (f : Log → Log) : (s.onLog f).energy = s.energy := rfl
@[simp] theorem onLog_battery (f : Log → Log) : (s.onLog f).battery = s.battery := rfl
@[simp] theorem onLog_radio (f : Log → Log) : (s.onLog f).radio = s.radio := rfl
@[simp] theorem onLog_peers (f : Log → Log) : (s.onLog f).peers = s.peers := rfl
@[simp] theorem onLog_coord (f : Log → Log) : (s.onLog f).coord = s.coord := rfl
@[simp] theorem onLog_tags (f : Log → Log) : (s.onLog f).tags = s.tags := rfl
@[simp] theorem onLog_log (f : Log → Log) : (s.onLog f).log = f s.log := rfl
@[simp] theorem onLog_alarms (f : Log → Log) : (s.onLog f).alarms = s.alarms := rfl
@[simp] theorem onLog_port (f : Log → Log) : (s.onLog f).port = s.port := rfl

@[simp] theorem onAlarms_pending (f : Alarms → Alarms) : (s.onAlarms f).pending = s.pending := rfl
@[simp] theorem onAlarms_startUp (f : Alarms → Alarms) : (s.onAlarms f).startUp = s.startUp := rfl
@[simp] theorem onAlarms_loader (f : Alarms → Alarms) : (s.onAlarms f).loader = s.loader := rfl
@[simp] theorem onAlarms_clock (f : Alarms → Alarms) : (s.onAlarms f).clock = s.clock := rfl
@[simp] theorem onAlarms_meas (f : Alarms → Alarms) : (s.onAlarms f).meas = s.meas := rfl
@[simp] theorem onAlarms_mail (f : Alarms → Alarms) : (s.onAlarms f).mail = s.mail := rfl
@[simp] theorem onAlarms_oc (f : Alarms → Alarms) : (s.onAlarms f).oc = s.oc := rfl
@[simp] theorem onAlarms_seq (f : Alarms → Alarms) : (s.onAlarms f).seq = s.seq := rfl
@[simp] theorem onAlarms_mech (f : Alarms → Alarms) : (s.onAlarms f).mech = s.mech := rfl
@[simp] theorem onAlarms_gate (f : Alarms → Alarms) : (s.onAlarms f).gate = s.gate := rfl
@[simp] theorem onAlarms_energy (f : Alarms → Alarms) : (s.onAlarms f).energy = s.energy := rfl
@[simp] theorem onAlarms_battery (f : Alarms → Alarms) : (s.onAlarms f).battery = s.battery := rfl
@[simp] theorem onAlarms_radio (f : Alarms → Alarms) : (s.onAlarms f).radio = s.radio := rfl
@[simp] theorem onAlarms_peers (f : Alarms → Alarms) : (s.onAlarms f).peers = s.peers := rfl
@[simp] theorem onAlarms_coord (f : Alarms → Alarms) : (s.onAlarms f).coord = s.coord := rfl
@[simp] theorem onAlarms_tags (f : Alarms → Alarms) : (s.onAlarms f).tags = s.tags := rfl
@[simp] theorem onAlarms_log (f : Alarms → Alarms) : (s.onAlarms f).log = s.log := rfl
@[simp] theorem onAlarms_alarms (f : Alarms → Alarms) : (s.onAlarms f).alarms = f s.alarms := rfl
@[simp] theorem onAlarms_port (f : Alarms → Alarms) : (s.onAlarms f).port = s.port := rfl

@[simp] theorem onPort_pending (f : Port → Port) : (s.onPort f).pending = s.pending := rfl
@[simp] theorem onPort_startUp (f : Port → Port) : (s.onPort f).startUp = s.startUp := rfl
@[simp] theorem onPort_loader (f : Port → Port) : (s.onPort f).loader = s.loader := rfl
@[simp] theorem onPort_clock (f : Port → Port) : (s.onPort f).clock = s.clock := rfl
@[simp] theorem onPort_meas (f : Port → Port) : (s.onPort f).meas = s.meas := rfl
@[simp] theorem onPort_mail (f : Port → Port) : (s.onPort f).mail = s.mail := rfl
@[simp] theorem onPort_oc (f : Port → Port) : (s.onPort f).oc = s.oc := rfl
@[simp] theorem onPort_seq (f : Port → Port) : (s.onPort f).seq = s.seq := rfl
@[simp] theorem onPort_mech (f : Port → Port) : (s.onPort f).mech = s.mech := rfl
@[simp] theorem onPort_gate (f : Port → Port) : (s.onPort f).gate = s.gate := rfl
@[simp] theorem onPort_energy (f : Port → Port) : (s.onPort f).energy = s.energy := rfl
@[simp] theorem onPort_battery (f : Port → Port) : (s.onPort f).battery = s.battery := rfl
@[simp] theorem onPort_radio (f : Port → Port) : (s.onPort f).radio = s.radio := rfl
@[simp] theorem onPort_peers (f : Port → Port) : (s.onPort f).peers = s.peers := rfl
@[simp] theorem onPort_coord (f : Port → Port) : (s.onPort f).coord = s.coord := rfl
@[simp] theorem onPort_tags (f : Port → Port) : (s.onPort f).tags = s.tags := rfl
@[simp] theorem onPort_log (f : Port → Port) : (s.onPort f).log = s.log := rfl
@[simp] theorem onPort_alarms (f : Port → Port) : (s.onPort f).alarms = s.alarms := rfl
@[simp] theorem onPort_port (f : Port → Port) : (s.onPort f).port = f s.port := rfl

end Sys2Proof.Machine
end

