-- ==== Sys2Proof/Laws/Inputs.lean ====
section
/-! SUPPORT. The filtered inputs (R65, R84, R161) and the radio line's bits (R114, R115): one lemma for each thing that
their operations can do. -/

namespace Sys2Proof.Machine

/-! ## Filtered inputs -/

@[simp] theorem see_level (level : Bool) (held : Nat) (present : Bool) (i : Input) :
    (i.see level held present).level = level := rfl

/-- A level that has returned to the one taken stops the filter. -/
@[simp] theorem see_returned (present : Bool) (held : Nat) (i : Input) :
    i.see present held present = ⟨present, none⟩ := by simp [Input.see]

/-- A level that differs and has not stood on the input before starts the filter with the time it has stood. -/
theorem see_changed {level present : Bool} {held : Nat} {i : Input} (h : level ≠ present) (hi : i.level ≠ level) :
    i.see level held present = ⟨level, some (held * ticksPerMs)⟩ := by simp [Input.see, Input.standing, h, hi]

/-- A level said to have stood for less than its filter has run was interrupted, and its filter starts anew (R65). -/
theorem see_interrupted {level present : Bool} {held e : Nat} (h : level ≠ present) (he : held < e / ticksPerMs) :
    (Input.mk level (some e)).see level held present = ⟨level, some (held * ticksPerMs)⟩ := by
  simp [Input.see, Input.standing, h, Nat.not_le.mpr he]

/-- A level said to have stood for as long as its filter has run keeps the filter, to its part of a millisecond (R65). -/
theorem see_standing {level present : Bool} {e : Nat} (h : level ≠ present) :
    (Input.mk level (some e)).see level (e / ticksPerMs) present = ⟨level, some e⟩ := by
  have := Nat.div_mul_le_self e ticksPerMs
  simp [Input.see, Input.standing, h, Nat.max_eq_right this]

@[simp] theorem settle_level (limit : Nat) (i : Input) : (i.settle limit).level = i.level := by
  unfold Input.settle
  split <;> rfl

theorem settle_ripe {limit : Nat} {i : Input} (h : i.ripe limit = true) : i.settle limit = ⟨i.level, none⟩ := by
  simp [Input.settle, h]

theorem settle_unripe {limit : Nat} {i : Input} (h : i.ripe limit = false) : i.settle limit = i := by
  simp [Input.settle, h]

theorem filtered_ripe {limit : Nat} {present : Bool} {i : Input} (h : i.ripe limit = true) :
    i.filtered limit present = i.level := by simp [Input.filtered, h]

theorem filtered_unripe {limit : Nat} {present : Bool} {i : Input} (h : i.ripe limit = false) :
    i.filtered limit present = present := by simp [Input.filtered, h]

@[simp] theorem ripe_stopped (limit : Nat) (level : Bool) : (Input.mk level none).ripe limit = false := rfl

/-- An input at rest on its filtered level gives that level. -/
@[simp] theorem filtered_stopped (limit : Nat) (level present : Bool) :
    (Input.mk level none).filtered limit present = present := rfl

/-! ## Bits of the radio line -/

@[simp] theorem wordBits_length {n : Nat} (w : BitVec n) : (wordBits w).length = n := by simp [wordBits]

theorem flatMap_wordBits_length (bs : List Byte) : (bs.flatMap wordBits).length = 8 * bs.length := by
  induction bs with
  | nil => rfl
  | cons b bs ih => simp [ih]; omega

/-- The line carries the frame's bit count of R115. -/
theorem lineBits_length (r : Radio) : r.lineBits.length = r.frameBits := by
  simp only [Radio.lineBits, Radio.frameBits, List.length_append, List.length_map, List.length_range, wordBits_length,
    flatMap_wordBits_length]

/-- In FRAME no bit reaches the sync search (R118). -/
theorem receiveBits_frame (bits : List Bool) (r : Radio) (h : r.rx ≠ .listen) : r.receiveBits bits = r := by
  unfold Radio.receiveBits
  induction bits with
  | nil => rfl
  | cons b bs ih => simpa [Radio.receiveBit, h] using ih

/-- A bit that does not complete the sync word is only shifted in; a place where the search then differs shows it. -/
theorem receive_short {r : Radio} {w : Half} {b : Bool} (h : r.rx = .listen) (i : Nat)
    (d : (w.shiftConcat b).getLsbD i ≠ syncWord.getLsbD i) :
    ({ r with search := w } : Radio).receiveBit b = { r with search := w.shiftConcat b } := by
  have n : w.shiftConcat b ≠ syncWord := fun e => d (e ▸ rfl)
  simp [Radio.receiveBit, h, n]

/-- The sync word received whole in LISTEN is one detection, whatever was received before it (R115, R118). -/
theorem receive_sync {r : Radio} (h : r.rx = .listen) :
    r.receiveBits (wordBits syncWord) =
      { r with rx := .frame, search := syncWord, windowSyncs := r.windowSyncs + 1 } := by
  have e : wordBits syncWord = [true, true, true, false, false, false, true, false, false, true, false, true, true,
    false, true, false] := by decide
  have w (x : Half) : (((((((((((((((x.shiftConcat true).shiftConcat true).shiftConcat true).shiftConcat false).shiftConcat
      false).shiftConcat false).shiftConcat true).shiftConcat false).shiftConcat false).shiftConcat true).shiftConcat
      false).shiftConcat true).shiftConcat true).shiftConcat false).shiftConcat true).shiftConcat false = syncWord := by
    ext i hi
    simp only [BitVec.getElem_shiftConcat, syncWord]
    iterate 16 (rcases i with _ | i; · simp)
    omega
  rw [e, show r = { r with search := r.search } from rfl]
  simp only [Radio.receiveBits, List.foldl_cons, List.foldl_nil]
  rw [receive_short h 0, receive_short h 0, receive_short h 0, receive_short h 2, receive_short h 1, receive_short h 1,
    receive_short h 0, receive_short h 3, receive_short h 1, receive_short h 0, receive_short h 3, receive_short h 0,
    receive_short h 0, receive_short h 2, receive_short h 0]
  · simp [Radio.receiveBit, h, w]
  all_goals simp [syncWord]

end Sys2Proof.Machine
end

