-- ==== Sys2Proof/Laws/Commit.lean ====
section
/-! SUPPORT. The end of a command (R125, R126, R132): what the STATE triggers offered there do to the outbox, and what a
command does that finds an event of its input still to be taken (log entry 9). -/

namespace Sys2Proof.Machine

variable {s : State}

theorem offerStates_succ (n : Nat) : s.offerStates (n + 1) = s.offerState.offerStates n := rfl

/-- In DEFAULTED operation no STATE is taken, whatever the number of triggers (R125). -/
theorem offerStates_defaulted (h : s.defaulted = true) (n : Nat) : s.offerStates n = s := by
  induction n with
  | zero => rfl
  | succ n ih => simp [State.offerStates, State.offerState, State.offerNotice, h, ih]

/-- A STATE offered while one is queued replaces it in place (R125). -/
theorem offerState_queued (h : s.defaulted = false) (hq : s.radio.outbox.any (·.kind = .state) = true) :
    s.offerState = s.onRadio fun r => r.replaceState s.statePayload := by
  simp [State.offerState, State.offerNotice, h, hq]

/-- A STATE offered to an outbox full of URGENT notices is dropped and counted (R126). -/
theorem offerState_dropped (h : s.defaulted = false) (hl : outboxCapacity ≤ s.radio.outbox.length)
    (hq : s.radio.outbox.any (·.kind = .state) = false) :
    s.offerState = s.onRadio fun r => { r with outboxOverflow := sat16 r.outboxOverflow } := by
  have u : NoticeKind.urgent .state = false := rfl
  simp [State.offerState, State.offerNotice, h, hq, State.onRadio, Nat.not_lt.mpr hl, u]

/-- Each of several STATE offers to an outbox full of URGENT notices is counted (R126). -/
theorem offerStates_dropped (h : s.defaulted = false) (hl : outboxCapacity ≤ s.radio.outbox.length)
    (hq : s.radio.outbox.any (·.kind = .state) = false) (n : Nat) :
    s.offerStates (n + 1) =
      s.onRadio fun r => { r with outboxOverflow := min (r.outboxOverflow + (n + 1)) 65535 } := by
  induction n generalizing s with
  | zero => simp [State.offerStates, offerState_dropped h hl hq, sat16]
  | succ n ih =>
    rw [offerStates_succ, offerState_dropped h hl hq]
    refine (ih (s := s.onRadio fun r => { r with outboxOverflow := sat16 r.outboxOverflow }) h hl hq).trans ?_
    simp only [State.onRadio, sat16]
    congr 2
    omega

/-- The tag items of a list of slots do not read the radio line. -/
theorem slotItems_onRadio (f : Radio → Radio) (n : Nat) (l : List LocalSlot) :
    (s.onRadio f).slotItems n l = s.slotItems n l := by
  induction l generalizing n with
  | nil => rfl
  | cons x rest ih =>
    unfold State.slotItems
    rw [ih]
    rfl

/-- Of the radio line a STATE carries the link grade alone (R141). -/
theorem statePayload_onRadio {f : Radio → Radio} (hf : (f s.radio).link = s.radio.link) :
    (s.onRadio f).statePayload = s.statePayload := by
  have items : (s.onRadio f).localItems = s.localItems := slotItems_onRadio f 0 s.tags.slots
  have link : (s.onRadio f).radio.link = s.radio.link := hf
  unfold State.statePayload
  rw [items, link]
  rfl

/-- A notice replaced by the same contents again is replaced once (R125). -/
theorem replaceState_twice (r : Radio) (payload : List Byte) :
    (r.replaceState payload).replaceState payload = r.replaceState payload := by
  simp only [Radio.replaceState, List.map_map]
  congr 1
  refine List.map_congr_left fun n _ => ?_
  by_cases h : n.kind = .state <;> simp [h, Radio.isOnAir, Radio.txKey]

/-- Joining the outbox keeps what every notice of it and the new one meet. -/
theorem any_insertNotice (p : Notice → Bool) (n : Notice) (l : List Notice) :
    (insertNotice n l).any p = (p n || l.any p) := by
  induction l with
  | nil => simp [insertNotice]
  | cons m ms ih =>
    unfold insertNotice
    split
    · simp
    · simp only [List.any_cons, ih]
      cases p n <;> cases p m <;> rfl

/-- A change that leaves a new notice and those of the outbox as they are leaves the joined outbox as it is. -/
theorem map_insertNotice {f : Notice → Notice} {n : Notice} {l : List Notice} (hn : f n = n) (hl : ∀ m ∈ l, f m = m) :
    (insertNotice n l).map f = insertNotice n l := by
  induction l with
  | nil => simp [insertNotice, hn]
  | cons m ms ih =>
    have hm := hl m (by simp)
    have hs := fun x hx => hl x (List.mem_cons_of_mem m hx)
    unfold insertNotice
    split
    · simp [hn, hm, List.map_id' , List.map_congr_left hs]
    · simp [hm, ih hs]

/-- A STATE that joins an outbox with room and none queued (R125). -/
theorem offerState_joins (h : s.defaulted = false) (hl : s.radio.outbox.length < outboxCapacity)
    (hq : s.radio.outbox.any (·.kind = .state) = false) :
    s.offerState =
      s.onRadio fun r => { r with outbox := insertNotice (s.newNotice .state s.statePayload) r.outbox } := by
  simp [State.offerState, State.offerNotice, h, hq, State.onRadio, hl]

/-- With room, or a STATE to replace, a second STATE of the same contents changes nothing more (R125, R132). -/
theorem offerState_twice (h : s.defaulted = false)
    (hl : s.radio.outbox.length < outboxCapacity ∨ s.radio.outbox.any (·.kind = .state) = true) :
    s.offerState.offerState = s.offerState := by
  cases hq : s.radio.outbox.any (·.kind = .state) with
  | true =>
    rw [offerState_queued h hq]
    have q : (s.onRadio fun r => r.replaceState s.statePayload).radio.outbox.any (·.kind = .state) = true := by
      simp only [State.onRadio, Radio.replaceState, List.any_map] at hq ⊢
      rw [← hq]
      congr 1
      funext n
      by_cases k : n.kind = .state <;> simp [k]
    rw [offerState_queued (s := s.onRadio fun r => r.replaceState s.statePayload) h q]
    rw [statePayload_onRadio (by rfl)]
    simp only [State.onRadio, replaceState_twice]
  | false =>
    have l := hl.resolve_right (by simp [hq])
    rw [offerState_joins h l hq]
    let t := s.onRadio fun r => { r with outbox := insertNotice (s.newNotice .state s.statePayload) r.outbox }
    have q : t.radio.outbox.any (·.kind = .state) = true := by
      simp [t, State.onRadio, any_insertNotice, State.newNotice]
    refine (offerState_queued (s := t) h q).trans ?_
    rw [show t.statePayload = s.statePayload from statePayload_onRadio (by rfl)]
    simp only [t, State.onRadio, Radio.replaceState]
    congr 2
    refine map_insertNotice (by simp [State.newNotice, Radio.isOnAir]) fun m hm => ?_
    have := List.any_eq_false.mp hq m hm
    simp only [decide_eq_true_eq] at this
    simp [this]

/-- With room, or a STATE to replace, any number of triggers leaves what one does (R125, R132). -/
theorem offerStates_taken (h : s.defaulted = false)
    (hl : s.radio.outbox.length < outboxCapacity ∨ s.radio.outbox.any (·.kind = .state) = true) (n : Nat) :
    s.offerStates (n + 1) = s.offerState := by
  induction n with
  | zero => rfl
  | succ n ih =>
    have more (k : Nat) (t : State) : t.offerStates (k + 1) = (t.offerStates k).offerState := by
      induction k generalizing t with
      | zero => rfl
      | succ k ih => rw [offerStates_succ, ih, ← offerStates_succ]
    rw [more, ih, offerState_twice h hl]

/-! ## Events of an input that were still to be taken (log entry 9) -/

@[simp] theorem actAfter_false (first second : State → State) (s : State) :
    actAfter false first second s = act second s := rfl

/-- A level that had held before the one now on the input began to stand, in terms of the times (R65, R84, R161). -/
theorem missed_iff (limit held : Nat) (present : Bool) (i : Input) :
    i.missed limit held present = true ↔
      i.level ≠ present ∧ ∃ e, i.timer = some e ∧ (limit + held) * ticksPerMs ≤ e := by
  rcases i with ⟨l, _ | e⟩ <;> simp [Input.missed, due]

end Sys2Proof.Machine
end

