-- ==== Sys2Proof/Laws/Only.lean ====
section
/-! SUPPORT. What each shared operation can change: for every operation, the blocks outside which the state after it agrees
with the state before it (`Only` of Safety.lean), as rewriting rules that peel the operations off a composed state. -/

namespace Sys2Proof.Machine

variable {l : List Block} {s t : State}

@[simp] theorem only_refl : Only l s s := by
  intro b _
  cases b <;> rfl

theorem Only.trans {u : State} (first : Only l s t) (second : Only l t u) : Only l s u := by
  intro b hb
  have h1 := first b hb
  have h2 := second b hb
  cases b <;> exact h2.trans h1

theorem Only.weaken {m : List Block} (h : Only l s t) (sub : l ⊆ m) : Only m s t :=
  fun b hb => h b fun hl => hb (sub hl)

/-- A state that agrees with `t` outside parts that are all listed stands in for `t`. -/
theorem only_congr {u : State} (h : Only l t u) : Only l s u ↔ Only l s t := by
  constructor
  · intro hu b hb
    have h1 := hu b hb
    have h2 := h b hb
    cases b <;> exact h2.symm.trans h1
  · intro ht
    exact ht.trans h

/-! ## Updates of one block -/

@[simp] theorem only_onLoader {f : _} (h : Block.loader ∈ l) : Only l s (t.onLoader f) ↔ Only l s t :=
  only_congr (by intro b hb; cases b <;> first | rfl | exact absurd h hb)

@[simp] theorem only_onClock {f : _} (h : Block.clock ∈ l) : Only l s (t.onClock f) ↔ Only l s t :=
  only_congr (by intro b hb; cases b <;> first | rfl | exact absurd h hb)

@[simp] theorem only_onMeas {f : _} (h : Block.meas ∈ l) : Only l s (t.onMeas f) ↔ Only l s t :=
  only_congr (by intro b hb; cases b <;> first | rfl | exact absurd h hb)

@[simp] theorem only_onMail {f : _} (h : Block.mail ∈ l) : Only l s (t.onMail f) ↔ Only l s t :=
  only_congr (by intro b hb; cases b <;> first | rfl | exact absurd h hb)

@[simp] theorem only_onOc {f : _} (h : Block.oc ∈ l) : Only l s (t.onOc f) ↔ Only l s t :=
  only_congr (by intro b hb; cases b <;> first | rfl | exact absurd h hb)

@[simp] theorem only_onSeq {f : _} (h : Block.seq ∈ l) : Only l s (t.onSeq f) ↔ Only l s t :=
  only_congr (by intro b hb; cases b <;> first | rfl | exact absurd h hb)

@[simp] theorem only_onMech {f : _} (h : Block.mech ∈ l) : Only l s (t.onMech f) ↔ Only l s t :=
  only_congr (by intro b hb; cases b <;> first | rfl | exact absurd h hb)

@[simp] theorem only_onGate {f : _} (h : Block.gate ∈ l) : Only l s (t.onGate f) ↔ Only l s t :=
  only_congr (by intro b hb; cases b <;> first | rfl | exact absurd h hb)

@[simp] theorem only_onEnergy {f : _} (h : Block.energy ∈ l) : Only l s (t.onEnergy f) ↔ Only l s t :=
  only_congr (by intro b hb; cases b <;> first | rfl | exact absurd h hb)

@[simp] theorem only_onBattery {f : _} (h : Block.battery ∈ l) : Only l s (t.onBattery f) ↔ Only l s t :=
  only_congr (by intro b hb; cases b <;> first | rfl | exact absurd h hb)

@[simp] theorem only_onRadio {f : _} (h : Block.radio ∈ l) : Only l s (t.onRadio f) ↔ Only l s t :=
  only_congr (by intro b hb; cases b <;> first | rfl | exact absurd h hb)

@[simp] theorem only_onPeers {f : _} (h : Block.peers ∈ l) : Only l s (t.onPeers f) ↔ Only l s t :=
  only_congr (by intro b hb; cases b <;> first | rfl | exact absurd h hb)

@[simp] theorem only_onCoord {f : _} (h : Block.coord ∈ l) : Only l s (t.onCoord f) ↔ Only l s t :=
  only_congr (by intro b hb; cases b <;> first | rfl | exact absurd h hb)

@[simp] theorem only_onTags {f : _} (h : Block.tags ∈ l) : Only l s (t.onTags f) ↔ Only l s t :=
  only_congr (by intro b hb; cases b <;> first | rfl | exact absurd h hb)

@[simp] theorem only_onLog {f : _} (h : Block.log ∈ l) : Only l s (t.onLog f) ↔ Only l s t :=
  only_congr (by intro b hb; cases b <;> first | rfl | exact absurd h hb)

@[simp] theorem only_onAlarms {f : _} (h : Block.alarms ∈ l) : Only l s (t.onAlarms f) ↔ Only l s t :=
  only_congr (by intro b hb; cases b <;> first | rfl | exact absurd h hb)

@[simp] theorem only_onPort {f : _} (h : Block.port ∈ l) : Only l s (t.onPort f) ↔ Only l s t :=
  only_congr (by intro b hb; cases b <;> first | rfl | exact absurd h hb)

/-! ## Shared operations -/

@[simp] theorem only_ite {p : Prop} [Decidable p] {u v : State} :
    Only l s (if p then u else v) ↔ if p then Only l s u else Only l s v := by
  split <;> rfl

@[simp] theorem only_setPhase {p : SeqPhase} (h : [Block.seq, .coord] ⊆ l) :
    Only l s (t.setPhase p) ↔ Only l s t := by
  simp only [List.cons_subset] at h
  simp [State.setPhase, h]

@[simp] theorem only_raise {c : Cause} (h : [Block.alarms] ⊆ l) :
    Only l s (t.raise c) ↔ Only l s t := by
  simp only [List.cons_subset] at h
  unfold State.raise
  try dsimp only
  (repeat' split) <;> simp [h]

@[simp] theorem only_raiseIf {b : Bool} {c : Cause} (h : [Block.alarms] ⊆ l) :
    Only l s (t.raiseIf b c) ↔ Only l s t := by
  simp only [List.cons_subset] at h
  unfold State.raiseIf
  try dsimp only
  (repeat' split) <;> simp [h]

@[simp] theorem only_endFrame (h : [Block.radio] ⊆ l) :
    Only l s (t.endFrame) ↔ Only l s t := by
  simp only [List.cons_subset] at h
  unfold State.endFrame
  try dsimp only
  (repeat' split) <;> simp [h]

@[simp] theorem only_closeWindow (h : [Block.radio, .alarms] ⊆ l) :
    Only l s (t.closeWindow) ↔ Only l s t := by
  simp only [List.cons_subset] at h
  unfold State.closeWindow
  try dsimp only
  (repeat' split) <;> simp [h]

@[simp] theorem only_takeBadFrame (h : [Block.radio, .alarms] ⊆ l) :
    Only l s (t.takeBadFrame) ↔ Only l s t := by
  simp only [List.cons_subset] at h
  unfold State.takeBadFrame
  try dsimp only
  (repeat' split) <;> simp [h]

@[simp] theorem only_offerNotice {kind : NoticeKind} {payload : List Byte} (h : [Block.radio] ⊆ l) :
    Only l s (t.offerNotice kind payload) ↔ Only l s t := by
  simp only [List.cons_subset] at h
  unfold State.offerNotice
  try dsimp only
  (repeat' split) <;> simp [h]

@[simp] theorem only_offerState (h : [Block.radio] ⊆ l) :
    Only l s (t.offerState) ↔ Only l s t := by
  simp only [List.cons_subset] at h
  unfold State.offerState
  try dsimp only
  (repeat' split) <;> simp [h]

@[simp] theorem only_enterDefer {urgent : Bool} (h : [Block.radio] ⊆ l) :
    Only l s (t.enterDefer urgent) ↔ Only l s t := by
  simp only [List.cons_subset] at h
  unfold State.enterDefer
  try dsimp only
  (repeat' split) <;> simp [h]

@[simp] theorem only_startBackoff {urgent : Bool} (h : [Block.radio] ⊆ l) :
    Only l s (t.startBackoff urgent) ↔ Only l s t := by
  simp only [List.cons_subset] at h
  unfold State.startBackoff
  try dsimp only
  (repeat' split) <;> simp [h]

@[simp] theorem only_startAttempt {n : Notice} (h : [Block.radio] ⊆ l) :
    Only l s (t.startAttempt n) ↔ Only l s t := by
  simp only [List.cons_subset] at h
  unfold State.startAttempt
  try dsimp only
  (repeat' split) <;> simp [h]

@[simp] theorem only_reviewAttempt (h : [Block.radio] ⊆ l) :
    Only l s (t.reviewAttempt) ↔ Only l s t := by
  simp only [List.cons_subset] at h
  unfold State.reviewAttempt
  try dsimp only
  (repeat' split) <;> simp [h]

@[simp] theorem only_settleReceiver (h : [Block.radio] ⊆ l) :
    Only l s (t.settleReceiver) ↔ Only l s t := by
  simp only [List.cons_subset] at h
  unfold State.settleReceiver
  try dsimp only
  (repeat' split) <;> simp [h]

@[simp] theorem only_radioModeChanged (h : [Block.radio] ⊆ l) :
    Only l s (t.radioModeChanged) ↔ Only l s t := by
  simp only [List.cons_subset] at h
  unfold State.radioModeChanged
  try dsimp only
  (repeat' split) <;> simp [h]

@[simp] theorem only_offerStates {n : Nat} (h : [Block.radio] ⊆ l) :
    Only l s (t.offerStates n) ↔ Only l s t := by
  induction n generalizing t with
  | zero => rfl
  | succ n ih =>
    simp only [List.cons_subset] at h
    simp [State.offerStates, ih, h]

@[simp] theorem only_finish {forced : Bool} {before : State} (h : [Block.radio] ⊆ l) :
    Only l s (finish forced before t) ↔ Only l s t := by
  simp only [List.cons_subset] at h
  simp [finish, h]

@[simp] theorem only_decideCapChargers (h : [Block.energy] ⊆ l) :
    Only l s (t.decideCapChargers) ↔ Only l s t := by
  simp only [List.cons_subset] at h
  unfold State.decideCapChargers
  try dsimp only
  (repeat' split) <;> simp [h]

@[simp] theorem only_takeAuxGroup {g : AuxGroup} (h : [Block.energy] ⊆ l) :
    Only l s (t.takeAuxGroup g) ↔ Only l s t := by
  simp only [List.cons_subset] at h
  unfold State.takeAuxGroup
  try dsimp only
  (repeat' split) <;> simp [h]

@[simp] theorem only_auxUpdate (h : [Block.mail, .energy] ⊆ l) :
    Only l s (t.auxUpdate) ↔ Only l s t := by
  simp only [List.cons_subset] at h
  unfold State.auxUpdate
  try dsimp only
  (repeat' split) <;> simp [h]

@[simp] theorem only_auxExpire (h : [Block.energy] ⊆ l) :
    Only l s (t.auxExpire) ↔ Only l s t := by
  simp only [List.cons_subset] at h
  unfold State.auxExpire
  try dsimp only
  (repeat' split) <;> simp [h]

@[simp] theorem only_decideBatteryCharger (h : [Block.battery] ⊆ l) :
    Only l s (t.decideBatteryCharger) ↔ Only l s t := by
  simp only [List.cons_subset] at h
  unfold State.decideBatteryCharger
  try dsimp only
  (repeat' split) <;> simp [h]

@[simp] theorem only_countCharge {g : AuxGroup} (h : [Block.battery] ⊆ l) :
    Only l s (t.countCharge g) ↔ Only l s t := by
  simp only [List.cons_subset] at h
  unfold State.countCharge
  try dsimp only
  (repeat' split) <;> simp [h]

@[simp] theorem only_calibrate (h : [Block.battery] ⊆ l) :
    Only l s (t.calibrate) ↔ Only l s t := by
  simp only [List.cons_subset] at h
  unfold State.calibrate
  try dsimp only
  (repeat' split) <;> simp [h]

@[simp] theorem only_chargeCycle {g : AuxGroup} (h : [Block.battery] ⊆ l) :
    Only l s (t.chargeCycle g) ↔ Only l s t := by
  simp only [List.cons_subset] at h
  unfold State.chargeCycle
  try dsimp only
  (repeat' split) <;> simp [h]

@[simp] theorem only_chargerUpdate {wasForced : Bool} {g : AuxGroup} (h : [Block.battery] ⊆ l) :
    Only l s (t.chargerUpdate wasForced g) ↔ Only l s t := by
  simp only [List.cons_subset] at h
  unfold State.chargerUpdate
  try dsimp only
  (repeat' split) <;> simp [h]

@[simp] theorem only_decideMode (h : [Block.battery, .radio] ⊆ l) :
    Only l s (t.decideMode) ↔ Only l s t := by
  simp only [List.cons_subset] at h
  unfold State.decideMode
  try dsimp only
  (repeat' split) <;> simp [h]

@[simp] theorem only_enterAbsent (h : [Block.battery] ⊆ l) :
    Only l s (t.enterAbsent) ↔ Only l s t := by
  simp only [List.cons_subset] at h
  unfold State.enterAbsent
  try dsimp only
  (repeat' split) <;> simp [h]

@[simp] theorem only_setGrade {quiet : Bool} {g : BatteryGrade} (h : [Block.energy, .battery, .radio, .alarms] ⊆ l) :
    Only l s (t.setGrade quiet g) ↔ Only l s t := by
  simp only [List.cons_subset] at h
  unfold State.setGrade
  try dsimp only
  (repeat' split) <;> simp [h]

@[simp] theorem only_takeCandidate {c : BatteryGrade} (h : [Block.energy, .battery, .radio, .alarms] ⊆ l) :
    Only l s (t.takeCandidate c) ↔ Only l s t := by
  simp only [List.cons_subset] at h
  unfold State.takeCandidate
  try dsimp only
  (repeat' split) <;> simp [h]

@[simp] theorem only_gradePublication {g : AuxGroup} (h : [Block.energy, .battery, .radio, .alarms] ⊆ l) :
    Only l s (t.gradePublication g) ↔ Only l s t := by
  simp only [List.cons_subset] at h
  unfold State.gradePublication
  try dsimp only
  (repeat' split) <;> simp [h]

@[simp] theorem only_grading {loadWasOn : Bool} {aux : Option AuxGroup} (h : [Block.energy, .battery, .radio, .alarms] ⊆ l) :
    Only l s (t.grading loadWasOn aux) ↔ Only l s t := by
  simp only [List.cons_subset] at h
  unfold State.grading
  try dsimp only
  (repeat' split) <;> simp [h]

@[simp] theorem only_startTest (h : [Block.battery] ⊆ l) :
    Only l s (t.startTest) ↔ Only l s t := by
  simp only [List.cons_subset] at h
  unfold State.startTest
  try dsimp only
  (repeat' split) <;> simp [h]

@[simp] theorem only_askTest (h : [Block.battery] ⊆ l) :
    Only l s (t.askTest) ↔ Only l s t := by
  simp only [List.cons_subset] at h
  unfold State.askTest
  try dsimp only
  (repeat' split) <;> simp [h]

@[simp] theorem only_endTest {r : LastResult} (h : [Block.battery] ⊆ l) :
    Only l s (t.endTest r) ↔ Only l s t := by
  simp only [List.cons_subset] at h
  unfold State.endTest
  try dsimp only
  (repeat' split) <;> simp [h]

@[simp] theorem only_abortTest (h : [Block.battery] ⊆ l) :
    Only l s (t.abortTest) ↔ Only l s t := by
  simp only [List.cons_subset] at h
  unfold State.abortTest
  try dsimp only
  (repeat' split) <;> simp [h]

@[simp] theorem only_operationRequest (h : [Block.battery] ⊆ l) :
    Only l s (t.operationRequest) ↔ Only l s t := by
  simp only [List.cons_subset] at h
  unfold State.operationRequest
  try dsimp only
  (repeat' split) <;> simp [h]

@[simp] theorem only_failGrade (h : [Block.energy, .battery, .radio, .alarms] ⊆ l) :
    Only l s (t.failGrade) ↔ Only l s t := by
  simp only [List.cons_subset] at h
  unfold State.failGrade
  try dsimp only
  (repeat' split) <;> simp [h]

@[simp] theorem only_finishTest (h : [Block.energy, .battery, .radio, .alarms] ⊆ l) :
    Only l s (t.finishTest) ↔ Only l s t := by
  simp only [List.cons_subset] at h
  unfold State.finishTest
  try dsimp only
  (repeat' split) <;> simp [h]

@[simp] theorem only_takeTestAbort (h : [Block.battery] ⊆ l) :
    Only l s (t.takeTestAbort) ↔ Only l s t := by
  simp only [List.cons_subset] at h
  unfold State.takeTestAbort
  try dsimp only
  (repeat' split) <;> simp [h]

@[simp] theorem only_takePublication {p : Publication} (h : [Block.energy, .battery, .radio, .alarms] ⊆ l) :
    Only l s (t.takePublication p) ↔ Only l s t := by
  simp only [List.cons_subset] at h
  unfold State.takePublication
  try dsimp only
  (repeat' split) <;> simp [h]

@[simp] theorem only_chargeCount (h : [Block.mail, .energy, .battery, .radio, .alarms] ⊆ l) :
    Only l s (t.chargeCount) ↔ Only l s t := by
  simp only [List.cons_subset] at h
  unfold State.chargeCount
  try dsimp only
  (repeat' split) <;> simp [h]

@[simp] theorem only_absorbLimit (h : [Block.battery] ⊆ l) :
    Only l s (t.absorbLimit) ↔ Only l s t := by
  simp only [List.cons_subset] at h
  unfold State.absorbLimit
  try dsimp only
  (repeat' split) <;> simp [h]

@[simp] theorem only_settle (h : [Block.energy, .battery, .radio, .alarms] ⊆ l) :
    Only l s (t.settle) ↔ Only l s t := by
  simp only [List.cons_subset] at h
  unfold State.settle
  try dsimp only
  (repeat' split) <;> simp [h]

@[simp] theorem only_skipTest (h : [Block.battery] ⊆ l) :
    Only l s (t.skipTest) ↔ Only l s t := by
  simp only [List.cons_subset] at h
  unfold State.skipTest
  try dsimp only
  (repeat' split) <;> simp [h]

@[simp] theorem only_takeSupply (h : [Block.energy, .battery, .radio] ⊆ l) :
    Only l s (t.takeSupply) ↔ Only l s t := by
  simp only [List.cons_subset] at h
  unfold State.takeSupply
  try dsimp only
  (repeat' split) <;> simp [h]

@[simp] theorem only_evaluateBlock {p : Publication} (h : [Block.mail, .oc] ⊆ l) :
    Only l s (t.evaluateBlock p) ↔ Only l s t := by
  simp only [List.cons_subset] at h
  unfold State.evaluateBlock
  try dsimp only
  (repeat' split) <;> simp [h]

@[simp] theorem only_nextBlock (h : [Block.mail, .oc] ⊆ l) :
    Only l s (t.nextBlock) ↔ Only l s t := by
  simp only [List.cons_subset] at h
  unfold State.nextBlock
  try dsimp only
  (repeat' split) <;> simp [h]

@[simp] theorem only_withdrawOffer (h : [Block.mail, .oc] ⊆ l) :
    Only l s (t.withdrawOffer) ↔ Only l s t := by
  simp only [List.cons_subset] at h
  unfold State.withdrawOffer
  try dsimp only
  (repeat' split) <;> simp [h]

@[simp] theorem only_fastBlock (h : [Block.oc] ⊆ l) :
    Only l s (t.fastBlock) ↔ Only l s t := by
  simp only [List.cons_subset] at h
  unfold State.fastBlock
  try dsimp only
  (repeat' split) <;> simp [h]

@[simp] theorem only_endEvent {outcome : EventOutcome} {reason : Option LockoutReason} (h : [Block.oc, .seq, .log] ⊆ l) :
    Only l s (t.endEvent outcome reason) ↔ Only l s t := by
  simp only [List.cons_subset] at h
  unfold State.endEvent
  try dsimp only
  (repeat' split) <;> simp [h]

@[simp] theorem only_startEvent (h : [Block.seq] ⊆ l) :
    Only l s (t.startEvent) ↔ Only l s t := by
  simp only [List.cons_subset] at h
  unfold State.startEvent
  try dsimp only
  (repeat' split) <;> simp [h]

@[simp] theorem only_giveOffer {o : Offer} (h : [Block.oc] ⊆ l) :
    Only l s (t.giveOffer o) ↔ Only l s t := by
  simp only [List.cons_subset] at h
  unfold State.giveOffer
  try dsimp only
  (repeat' split) <;> simp [h]

@[simp] theorem only_updateOffer (h : [Block.oc] ⊆ l) :
    Only l s (t.updateOffer) ↔ Only l s t := by
  simp only [List.cons_subset] at h
  unfold State.updateOffer
  try dsimp only
  (repeat' split) <;> simp [h]

@[simp] theorem only_enterReady (h : [Block.oc, .seq, .coord] ⊆ l) :
    Only l s (t.enterReady) ↔ Only l s t := by
  simp only [List.cons_subset] at h
  unfold State.enterReady
  try dsimp only
  (repeat' split) <;> simp [h]

@[simp] theorem only_enterReclaim (h : [Block.oc, .seq, .coord] ⊆ l) :
    Only l s (t.enterReclaim) ↔ Only l s t := by
  simp only [List.cons_subset] at h
  unfold State.enterReclaim
  try dsimp only
  (repeat' split) <;> simp [h]

@[simp] theorem only_enterDead (h : [Block.mail, .oc, .seq, .coord] ⊆ l) :
    Only l s (t.enterDead) ↔ Only l s t := by
  simp only [List.cons_subset] at h
  unfold State.enterDead
  try dsimp only
  (repeat' split) <;> simp [h]

@[simp] theorem only_enterLockout {reason : LockoutReason} {detail : Option GateReason} (h : [Block.mail, .oc, .seq, .coord, .log, .alarms] ⊆ l) :
    Only l s (t.enterLockout reason detail) ↔ Only l s t := by
  simp only [List.cons_subset] at h
  unfold State.enterLockout
  try dsimp only
  (repeat' split) <;> simp [h]

@[simp] theorem only_reviewTie (h : [Block.coord] ⊆ l) :
    Only l s (t.reviewTie) ↔ Only l s t := by
  simp only [List.cons_subset] at h
  unfold State.reviewTie
  try dsimp only
  (repeat' split) <;> simp [h]

@[simp] theorem only_enterStandby (h : [Block.mail, .oc, .seq, .coord, .log] ⊆ l) :
    Only l s (t.enterStandby) ↔ Only l s t := by
  simp only [List.cons_subset] at h
  unfold State.enterStandby
  try dsimp only
  (repeat' split) <;> simp [h]

@[simp] theorem only_leaveTripping (h : [Block.mail, .oc, .seq, .coord, .log, .alarms] ⊆ l) :
    Only l s (t.leaveTripping) ↔ Only l s t := by
  simp only [List.cons_subset] at h
  unfold State.leaveTripping
  try dsimp only
  (repeat' split) <;> simp [h]

@[simp] theorem only_offerIsolate {causes : TripCauses} (h : [Block.radio] ⊆ l) :
    Only l s (t.offerIsolate causes) ↔ Only l s t := by
  simp only [List.cons_subset] at h
  unfold State.offerIsolate
  try dsimp only
  (repeat' split) <;> simp [h]

@[simp] theorem only_tripCompleted (h : [Block.mail, .oc, .seq, .radio, .coord, .log, .alarms] ⊆ l) :
    Only l s (t.tripCompleted) ↔ Only l s t := by
  simp only [List.cons_subset] at h
  unfold State.tripCompleted
  try dsimp only
  (repeat' split) <;> simp [h]

@[simp] theorem only_mechanismFailed (h : [Block.mail, .oc, .seq, .coord, .log, .alarms] ⊆ l) :
    Only l s (t.mechanismFailed) ↔ Only l s t := by
  simp only [List.cons_subset] at h
  unfold State.mechanismFailed
  try dsimp only
  (repeat' split) <;> simp [h]

@[simp] theorem only_unexpectedOpen (h : [Block.mail, .oc, .seq, .coord, .log, .alarms] ⊆ l) :
    Only l s (t.unexpectedOpen) ↔ Only l s t := by
  simp only [List.cons_subset] at h
  unfold State.unexpectedOpen
  try dsimp only
  (repeat' split) <;> simp [h]

@[simp] theorem only_unexpectedClose (h : [Block.oc, .seq, .coord, .log] ⊆ l) :
    Only l s (t.unexpectedClose) ↔ Only l s t := by
  simp only [List.cons_subset] at h
  unfold State.unexpectedClose
  try dsimp only
  (repeat' split) <;> simp [h]

@[simp] theorem only_tellDemanded (h : [Block.oc] ⊆ l) :
    Only l s (t.tellDemanded) ↔ Only l s t := by
  simp only [List.cons_subset] at h
  unfold State.tellDemanded
  try dsimp only
  (repeat' split) <;> simp [h]

@[simp] theorem only_closeCompleted {held : Bool} (h : [Block.oc, .seq, .coord] ⊆ l) :
    Only l s (t.closeCompleted held) ↔ Only l s t := by
  simp only [List.cons_subset] at h
  unfold State.closeCompleted
  try dsimp only
  (repeat' split) <;> simp [h]

@[simp] theorem only_hotLineBegin (h : [Block.mail, .oc, .seq, .coord, .log, .alarms] ⊆ l) :
    Only l s (t.hotLineBegin) ↔ Only l s t := by
  simp only [List.cons_subset] at h
  unfold State.hotLineBegin
  try dsimp only
  (repeat' split) <;> simp [h]

@[simp] theorem only_hotLineEnd (h : [Block.oc, .seq] ⊆ l) :
    Only l s (t.hotLineEnd) ↔ Only l s t := by
  simp only [List.cons_subset] at h
  unfold State.hotLineEnd
  try dsimp only
  (repeat' split) <;> simp [h]

@[simp] theorem only_takePickup {newEvent : Bool} (h : [Block.seq, .coord] ⊆ l) :
    Only l s (t.takePickup newEvent) ↔ Only l s t := by
  simp only [List.cons_subset] at h
  unfold State.takePickup
  try dsimp only
  (repeat' split) <;> simp [h]

@[simp] theorem only_pickupReport (h : [Block.mail, .seq, .coord] ⊆ l) :
    Only l s (t.pickupReport) ↔ Only l s t := by
  simp only [List.cons_subset] at h
  unfold State.pickupReport
  try dsimp only
  (repeat' split) <;> simp [h]

@[simp] theorem only_takeTimingEnded (h : [Block.oc, .seq, .coord, .log] ⊆ l) :
    Only l s (t.takeTimingEnded) ↔ Only l s t := by
  simp only [List.cons_subset] at h
  unfold State.takeTimingEnded
  try dsimp only
  (repeat' split) <;> simp [h]

@[simp] theorem only_timingEnded (h : [Block.mail, .oc, .seq, .coord, .log] ⊆ l) :
    Only l s (t.timingEnded) ↔ Only l s t := by
  simp only [List.cons_subset] at h
  unfold State.timingEnded
  try dsimp only
  (repeat' split) <;> simp [h]

@[simp] theorem only_reclaimEnd (h : [Block.oc, .seq, .coord, .log] ⊆ l) :
    Only l s (t.reclaimEnd) ↔ Only l s t := by
  simp only [List.cons_subset] at h
  unfold State.reclaimEnd
  try dsimp only
  (repeat' split) <;> simp [h]

@[simp] theorem only_rechargeEnd (h : [Block.mail, .oc, .seq, .coord, .log, .alarms] ⊆ l) :
    Only l s (t.rechargeEnd) ↔ Only l s t := by
  simp only [List.cons_subset] at h
  unfold State.rechargeEnd
  try dsimp only
  (repeat' split) <;> simp [h]

@[simp] theorem only_shortenDeadTime (h : [Block.seq] ⊆ l) :
    Only l s (t.shortenDeadTime) ↔ Only l s t := by
  simp only [List.cons_subset] at h
  unfold State.shortenDeadTime
  try dsimp only
  (repeat' split) <;> simp [h]

@[simp] theorem only_startTrip (h : [Block.mech, .energy] ⊆ l) :
    Only l s (t.startTrip) ↔ Only l s t := by
  simp only [List.cons_subset] at h
  unfold State.startTrip
  try dsimp only
  (repeat' split) <;> simp [h]

@[simp] theorem only_startClose (h : [Block.mech, .energy] ⊆ l) :
    Only l s (t.startClose) ↔ Only l s t := by
  simp only [List.cons_subset] at h
  unfold State.startClose
  try dsimp only
  (repeat' split) <;> simp [h]

@[simp] theorem only_completeTrip (h : [Block.mail, .oc, .seq, .mech, .energy, .radio, .coord, .log, .alarms] ⊆ l) :
    Only l s (t.completeTrip) ↔ Only l s t := by
  simp only [List.cons_subset] at h
  unfold State.completeTrip
  try dsimp only
  (repeat' split) <;> simp [h]

@[simp] theorem only_completeClose (h : [Block.oc, .seq, .mech, .energy, .battery, .coord] ⊆ l) :
    Only l s (t.completeClose) ↔ Only l s t := by
  simp only [List.cons_subset] at h
  unfold State.completeClose
  try dsimp only
  (repeat' split) <;> simp [h]

@[simp] theorem only_enterJammed (h : [Block.mail, .oc, .seq, .mech, .energy, .coord, .log, .alarms] ⊆ l) :
    Only l s (t.enterJammed) ↔ Only l s t := by
  simp only [List.cons_subset] at h
  unfold State.enterJammed
  try dsimp only
  (repeat' split) <;> simp [h]

@[simp] theorem only_tripRequest (h : [Block.mail, .oc, .seq, .mech, .energy, .battery, .radio, .coord, .log, .alarms] ⊆ l) :
    Only l s (t.tripRequest) ↔ Only l s t := by
  simp only [List.cons_subset] at h
  unfold State.tripRequest
  try dsimp only
  (repeat' split) <;> simp [h]

@[simp] theorem only_closeRequest (h : [Block.oc, .seq, .mech, .energy, .battery, .coord] ⊆ l) :
    Only l s (t.closeRequest) ↔ Only l s t := by
  simp only [List.cons_subset] at h
  unfold State.closeRequest
  try dsimp only
  (repeat' split) <;> simp [h]

@[simp] theorem only_takeDemand (h : [Block.mail, .oc, .seq, .mech, .energy, .battery, .radio, .coord, .log, .alarms] ⊆ l) :
    Only l s (t.takeDemand) ↔ Only l s t := by
  simp only [List.cons_subset] at h
  unfold State.takeDemand
  try dsimp only
  (repeat' split) <;> simp [h]

@[simp] theorem only_tripDemand (h : [Block.mail, .oc, .seq, .mech, .energy, .battery, .radio, .coord, .log, .alarms] ⊆ l) :
    Only l s (t.tripDemand) ↔ Only l s t := by
  simp only [List.cons_subset] at h
  unfold State.tripDemand
  try dsimp only
  (repeat' split) <;> simp [h]

@[simp] theorem only_readingAtRest {r : Option Bool} (h : [Block.mail, .oc, .seq, .mech, .coord, .log, .alarms] ⊆ l) :
    Only l s (t.readingAtRest r) ↔ Only l s t := by
  simp only [List.cons_subset] at h
  unfold State.readingAtRest
  try dsimp only
  (repeat' split) <;> simp [h]

@[simp] theorem only_takeReading {r : Option Bool} (h : [Block.mail, .oc, .seq, .mech, .energy, .battery, .radio, .coord, .log, .alarms] ⊆ l) :
    Only l s (t.takeReading r) ↔ Only l s t := by
  simp only [List.cons_subset] at h
  unfold State.takeReading
  try dsimp only
  (repeat' split) <;> simp [h]

@[simp] theorem only_setContacts {contactOpen contactClosed : Bool} (h : [Block.mail, .oc, .seq, .mech, .energy, .battery, .radio, .coord, .log, .alarms] ⊆ l) :
    Only l s (t.setContacts contactOpen contactClosed) ↔ Only l s t := by
  simp only [List.cons_subset] at h
  unfold State.setContacts
  try dsimp only
  (repeat' split) <;> simp [h]

@[simp] theorem only_takeContacts (h : [Block.mail, .oc, .seq, .mech, .energy, .battery, .radio, .coord, .log, .alarms] ⊆ l) :
    Only l s (t.takeContacts) ↔ Only l s t := by
  have hm : Block.mech ∈ l := h (by decide)
  unfold State.takeContacts
  simp [h, hm]

@[simp] theorem only_clearJammed (h : [Block.mech] ⊆ l) :
    Only l s (t.clearJammed) ↔ Only l s t := by
  simp only [List.cons_subset] at h
  unfold State.clearJammed
  try dsimp only
  (repeat' split) <;> simp [h]

@[simp] theorem only_countBlocked (h : [Block.tags] ⊆ l) :
    Only l s (t.countBlocked) ↔ Only l s t := by
  simp only [List.cons_subset] at h
  unfold State.countBlocked
  try dsimp only
  (repeat' split) <;> simp [h]

@[simp] theorem only_refuse {reason : GateReason} {requester : Requester} (h : [Block.gate, .tags] ⊆ l) :
    Only l s (t.refuse reason requester) ↔ Only l s t := by
  simp only [List.cons_subset] at h
  unfold State.refuse
  try dsimp only
  (repeat' split) <;> simp [h]

@[simp] theorem only_reclose {automatic : Bool} (h : [Block.mail, .oc, .seq, .mech, .energy, .battery, .coord] ⊆ l) :
    Only l s (t.reclose automatic) ↔ Only l s t := by
  simp only [List.cons_subset] at h
  unfold State.reclose
  try dsimp only
  (repeat' split) <;> simp [h]

@[simp] theorem only_commandClose {requester : Requester} (h : [Block.mail, .oc, .seq, .mech, .gate, .energy, .battery, .coord, .tags] ⊆ l) :
    Only l s (t.commandClose requester) ↔ Only l s t := by
  simp only [List.cons_subset] at h
  unfold State.commandClose
  try dsimp only
  (repeat' split) <;> simp [h]

@[simp] theorem only_enterRechargeWait (h : [Block.mail, .oc, .seq, .coord] ⊆ l) :
    Only l s (t.enterRechargeWait) ↔ Only l s t := by
  simp only [List.cons_subset] at h
  unfold State.enterRechargeWait
  try dsimp only
  (repeat' split) <;> simp [h]

@[simp] theorem only_deadTimeEnd (h : [Block.mail, .oc, .seq, .mech, .gate, .energy, .battery, .coord, .tags, .log, .alarms] ⊆ l) :
    Only l s (t.deadTimeEnd) ↔ Only l s t := by
  simp only [List.cons_subset] at h
  unfold State.deadTimeEnd
  try dsimp only
  (repeat' split) <;> simp [h]

@[simp] theorem only_reask (h : [Block.mail, .oc, .seq, .mech, .gate, .energy, .battery, .coord, .tags, .log, .alarms] ⊆ l) :
    Only l s (t.reask) ↔ Only l s t := by
  simp only [List.cons_subset] at h
  unfold State.reask
  try dsimp only
  (repeat' split) <;> simp [h]

@[simp] theorem only_openTrip {cause : TripCauses} (h : [Block.mail, .oc, .seq, .mech, .energy, .battery, .radio, .coord, .log, .alarms] ⊆ l) :
    Only l s (t.openTrip cause) ↔ Only l s t := by
  simp only [List.cons_subset] at h
  unfold State.openTrip
  try dsimp only
  (repeat' split) <;> simp [h]

@[simp] theorem only_joinTrip {cause : TripCauses} (h : [Block.mail, .oc, .seq, .mech, .energy, .battery, .radio, .coord, .log, .alarms] ⊆ l) :
    Only l s (t.joinTrip cause) ↔ Only l s t := by
  simp only [List.cons_subset] at h
  unfold State.joinTrip
  try dsimp only
  (repeat' split) <;> simp [h]

@[simp] theorem only_holdTrip {cause : TripCauses} (h : [Block.mail, .oc, .seq, .mech, .energy, .battery, .radio, .coord, .log, .alarms] ⊆ l) :
    Only l s (t.holdTrip cause) ↔ Only l s t := by
  simp only [List.cons_subset] at h
  unfold State.holdTrip
  try dsimp only
  (repeat' split) <;> simp [h]

@[simp] theorem only_commandOpen (h : [Block.mail, .oc, .seq, .mech, .energy, .battery, .radio, .coord, .log, .alarms] ⊆ l) :
    Only l s (t.commandOpen) ↔ Only l s t := by
  simp only [List.cons_subset] at h
  unfold State.commandOpen
  try dsimp only
  (repeat' split) <;> simp [h]

@[simp] theorem only_startOpenEvent (h : [Block.oc, .seq] ⊆ l) :
    Only l s (t.startOpenEvent) ↔ Only l s t := by
  simp only [List.cons_subset] at h
  unfold State.startOpenEvent
  try dsimp only
  (repeat' split) <;> simp [h]

@[simp] theorem only_coordinatorOpen {cause : TripCauses} (h : [Block.mail, .oc, .seq, .mech, .energy, .battery, .radio, .coord, .log, .alarms] ⊆ l) :
    Only l s (t.coordinatorOpen cause) ↔ Only l s t := by
  simp only [List.cons_subset] at h
  unfold State.coordinatorOpen
  try dsimp only
  (repeat' split) <;> simp [h]

@[simp] theorem only_countSectionalize (h : [Block.mail, .oc, .seq, .mech, .energy, .battery, .radio, .coord, .log, .alarms] ⊆ l) :
    Only l s (t.countSectionalize) ↔ Only l s t := by
  simp only [List.cons_subset] at h
  unfold State.countSectionalize
  try dsimp only
  (repeat' split) <;> simp [h]

@[simp] theorem only_countIsolate (h : [Block.mail, .oc, .seq, .mech, .energy, .battery, .radio, .coord, .log, .alarms] ⊆ l) :
    Only l s (t.countIsolate) ↔ Only l s t := by
  simp only [List.cons_subset] at h
  unfold State.countIsolate
  try dsimp only
  (repeat' split) <;> simp [h]

@[simp] theorem only_takeLoss {p : Publication} (h : [Block.mail, .oc, .seq, .mech, .energy, .battery, .radio, .coord, .log, .alarms] ⊆ l) :
    Only l s (t.takeLoss p) ↔ Only l s t := by
  simp only [List.cons_subset] at h
  unfold State.takeLoss
  try dsimp only
  (repeat' split) <;> simp [h]

@[simp] theorem only_matchLoss {p : Peer} (h : [Block.mail, .oc, .seq, .mech, .energy, .battery, .radio, .coord, .log, .alarms] ⊆ l) :
    Only l s (t.matchLoss p) ↔ Only l s t := by
  simp only [List.cons_subset] at h
  unfold State.matchLoss
  try dsimp only
  (repeat' split) <;> simp [h]

@[simp] theorem only_stopCoordTimers (h : [Block.coord] ⊆ l) :
    Only l s (t.stopCoordTimers) ↔ Only l s t := by
  simp only [List.cons_subset] at h
  unfold State.stopCoordTimers
  try dsimp only
  (repeat' split) <;> simp [h]

@[simp] theorem only_startCountReset {p : Publication} (h : [Block.coord] ⊆ l) :
    Only l s (t.startCountReset p) ↔ Only l s t := by
  simp only [List.cons_subset] at h
  unfold State.startCountReset
  try dsimp only
  (repeat' split) <;> simp [h]

@[simp] theorem only_resetCounts (h : [Block.seq, .coord] ⊆ l) :
    Only l s (t.resetCounts) ↔ Only l s t := by
  simp only [List.cons_subset] at h
  unfold State.resetCounts
  try dsimp only
  (repeat' split) <;> simp [h]

@[simp] theorem only_checkRestore (h : [Block.mail, .oc, .seq, .mech, .gate, .energy, .battery, .coord, .tags] ⊆ l) :
    Only l s (t.checkRestore) ↔ Only l s t := by
  simp only [List.cons_subset] at h
  unfold State.checkRestore
  try dsimp only
  (repeat' split) <;> simp [h]

@[simp] theorem only_serveTie (h : [Block.mail, .oc, .seq, .mech, .gate, .energy, .battery, .coord, .tags] ⊆ l) :
    Only l s (t.serveTie) ↔ Only l s t := by
  simp only [List.cons_subset] at h
  unfold State.serveTie
  try dsimp only
  (repeat' split) <;> simp [h]

@[simp] theorem only_coordinate {p : Publication} (h : [Block.mail, .oc, .seq, .mech, .gate, .energy, .battery, .radio, .coord, .tags, .log, .alarms] ⊆ l) :
    Only l s (t.coordinate p) ↔ Only l s t := by
  simp only [List.cons_subset] at h
  unfold State.coordinate
  try dsimp only
  (repeat' split) <;> simp [h]

@[simp] theorem only_coordinatorBlock (h : [Block.mail, .oc, .seq, .mech, .gate, .energy, .battery, .radio, .coord, .tags, .log, .alarms] ⊆ l) :
    Only l s (t.coordinatorBlock) ↔ Only l s t := by
  simp only [List.cons_subset] at h
  unfold State.coordinatorBlock
  try dsimp only
  (repeat' split) <;> simp [h]

@[simp] theorem only_passageIndication (h : [Block.mail, .radio] ⊆ l) :
    Only l s (t.passageIndication) ↔ Only l s t := by
  simp only [List.cons_subset] at h
  unfold State.passageIndication
  try dsimp only
  (repeat' split) <;> simp [h]

@[simp] theorem only_takeFaultReport {p : Peer} (h : [Block.mail, .oc, .seq, .mech, .energy, .battery, .radio, .coord, .log, .alarms] ⊆ l) :
    Only l s (t.takeFaultReport p) ↔ Only l s t := by
  simp only [List.cons_subset] at h
  unfold State.takeFaultReport
  try dsimp only
  (repeat' split) <;> simp [h]

@[simp] theorem only_takeIsolationReport {p : Peer} {faulted : Nat} (h : [Block.mail, .oc, .seq, .mech, .gate, .energy, .battery, .coord, .tags] ⊆ l) :
    Only l s (t.takeIsolationReport p faulted) ↔ Only l s t := by
  simp only [List.cons_subset] at h
  unfold State.takeIsolationReport
  try dsimp only
  (repeat' split) <;> simp [h]

@[simp] theorem only_reviewHotLine (h : [Block.mail, .oc, .seq, .coord, .log, .alarms] ⊆ l) :
    Only l s (t.reviewHotLine) ↔ Only l s t := by
  simp only [List.cons_subset] at h
  unfold State.reviewHotLine
  try dsimp only
  (repeat' split) <;> simp [h]

@[simp] theorem only_placeLocal {n : Nat} {kind : TagKind} {scope : Scope} {crewId grade : Nat} (h : [Block.mail, .oc, .seq, .radio, .coord, .tags, .log, .alarms] ⊆ l) :
    Only l s (t.placeLocal n kind scope crewId grade) ↔ Only l s t := by
  simp only [List.cons_subset] at h
  unfold State.placeLocal
  try dsimp only
  (repeat' split) <;> simp [h]

@[simp] theorem only_removeLocal {n : Nat} (h : [Block.mail, .oc, .seq, .radio, .coord, .tags, .log, .alarms] ⊆ l) :
    Only l s (t.removeLocal n) ↔ Only l s t := by
  simp only [List.cons_subset] at h
  unfold State.removeLocal
  try dsimp only
  (repeat' split) <;> simp [h]

@[simp] theorem only_turnKey {on : Bool} (h : [Block.mail, .oc, .seq, .radio, .coord, .tags, .log, .alarms] ⊆ l) :
    Only l s (t.turnKey on) ↔ Only l s t := by
  simp only [List.cons_subset] at h
  unfold State.turnKey
  try dsimp only
  (repeat' split) <;> simp [h]

@[simp] theorem only_takeKey (h : [Block.mail, .oc, .seq, .radio, .coord, .tags, .log, .alarms] ⊆ l) :
    Only l s (t.takeKey) ↔ Only l s t := by
  unfold State.takeKey
  split <;> simp [h]

@[simp] theorem only_confirm (h : [Block.mech, .tags] ⊆ l) :
    Only l s (t.confirm) ↔ Only l s t := by
  simp only [List.cons_subset] at h
  unfold State.confirm
  try dsimp only
  (repeat' split) <;> simp [h]

/-- What a button's level can change, by what the three requests can. -/
@[simp] theorem only_takeButton {b : Button} (h : [Block.mail, .oc, .seq, .mech, .gate, .energy, .battery, .radio, .coord, .tags, .log, .alarms] ⊆ l) :
    Only l s (t.takeButton b) ↔ Only l s t := by
  simp only [List.cons_subset] at h
  unfold State.takeButton
  dsimp only
  split
  · cases b <;> simp [State.buttonRequest, h]
  · simp [h]

@[simp] theorem only_setOverflow (h : [Block.tags, .alarms] ⊆ l) :
    Only l s (t.setOverflow) ↔ Only l s t := by
  simp only [List.cons_subset] at h
  unfold State.setOverflow
  try dsimp only
  (repeat' split) <;> simp [h]

@[simp] theorem only_reconcile {holder : Nat} {restarted : Bool} {items : List TagItem} (h : [Block.mail, .oc, .seq, .coord, .tags, .log, .alarms] ⊆ l) :
    Only l s (t.reconcile holder restarted items) ↔ Only l s t := by
  simp only [List.cons_subset] at h
  unfold State.reconcile
  try dsimp only
  (repeat' split) <;> simp [h]

@[simp] theorem only_refuseTagPayload (h : [Block.tags] ⊆ l) :
    Only l s (t.refuseTagPayload) ↔ Only l s t := by
  simp only [List.cons_subset] at h
  unfold State.refuseTagPayload
  try dsimp only
  (repeat' split) <;> simp [h]

@[simp] theorem only_tagPlaced {holder : Nat} {i : TagItem} (h : [Block.mail, .oc, .seq, .coord, .tags, .log, .alarms] ⊆ l) :
    Only l s (t.tagPlaced holder i) ↔ Only l s t := by
  simp only [List.cons_subset] at h
  unfold State.tagPlaced
  try dsimp only
  (repeat' split) <;> simp [h]

@[simp] theorem only_tagRemoved {holder : Nat} {i : TagItem} (h : [Block.mail, .oc, .seq, .coord, .tags, .log, .alarms] ⊆ l) :
    Only l s (t.tagRemoved holder i) ↔ Only l s t := by
  simp only [List.cons_subset] at h
  unfold State.tagRemoved
  try dsimp only
  (repeat' split) <;> simp [h]

@[simp] theorem only_takeTag {holder : Nat} {payload : List Byte} (h : [Block.mail, .oc, .seq, .coord, .tags, .log, .alarms] ⊆ l) :
    Only l s (t.takeTag holder payload) ↔ Only l s t := by
  simp only [List.cons_subset] at h
  unfold State.takeTag
  try dsimp only
  (repeat' split) <;> simp [h]

@[simp] theorem only_orphan {holder : Nat} (h : [Block.tags] ⊆ l) :
    Only l s (t.orphan holder) ↔ Only l s t := by
  simp only [List.cons_subset] at h
  unfold State.orphan
  try dsimp only
  (repeat' split) <;> simp [h]

@[simp] theorem only_offerRecall {holder : Nat} (h : [Block.radio] ⊆ l) :
    Only l s (t.offerRecall holder) ↔ Only l s t := by
  simp only [List.cons_subset] at h
  unfold State.offerRecall
  try dsimp only
  (repeat' split) <;> simp [h]

@[simp] theorem only_takeRecall {payload : List Byte} (h : [Block.mail, .oc, .seq, .coord, .tags, .log, .alarms] ⊆ l) :
    Only l s (t.takeRecall payload) ↔ Only l s t := by
  simp only [List.cons_subset] at h
  unfold State.takeRecall
  try dsimp only
  (repeat' split) <;> simp [h]

@[simp] theorem only_clearEntry {index : Nat} (h : [Block.mail, .oc, .seq, .coord, .tags, .log, .alarms] ⊆ l) :
    Only l s (t.clearEntry index) ↔ Only l s t := by
  simp only [List.cons_subset] at h
  unfold State.clearEntry
  try dsimp only
  (repeat' split) <;> simp [h]

/-- What an ask by kind, or an ask answered, can change. -/
@[simp] theorem only_askByKind {kind : AskKind} {crewId grade operand : Nat}
    (h : [Block.mail, .oc, .seq, .mech, .gate, .energy, .battery, .radio, .coord, .tags, .log, .alarms] ⊆ l) :
    Only l s (t.askByKind kind crewId grade operand).2 ↔ Only l s t := by
  simp only [List.cons_subset] at h
  unfold State.askByKind
  split <;>
    simp only [State.askPlace, State.askRemove, State.askClearOrphan, State.askConfirm, State.askOpen, State.askClose,
      State.askStatus] <;>
    (repeat' split) <;> simp [h]

@[simp] theorem only_answerAsk {payload : List Byte}
    (h : [Block.mail, .oc, .seq, .mech, .gate, .energy, .battery, .radio, .coord, .tags, .log, .alarms] ⊆ l) :
    Only l s (t.answerAsk payload).2.2 ↔ Only l s t := by
  unfold State.answerAsk
  (repeat' split) <;> simp [h]

@[simp] theorem only_takeAsk {handset seqNo : Nat} {payload : List Byte} (h : [Block.mail, .oc, .seq, .mech, .gate, .energy, .battery, .radio, .coord, .tags, .log, .alarms] ⊆ l) :
    Only l s (t.takeAsk handset seqNo payload) ↔ Only l s t := by
  simp only [List.cons_subset] at h
  unfold State.takeAsk
  try dsimp only
  (repeat' split) <;> simp [h]

@[simp] theorem only_peerLost {address : Nat} (h : [Block.tags, .alarms] ⊆ l) :
    Only l s (t.peerLost address) ↔ Only l s t := by
  simp only [List.cons_subset] at h
  unfold State.peerLost
  try dsimp only
  (repeat' split) <;> simp [h]

@[simp] theorem only_evict {slot : Nat} (h : [Block.peers, .tags, .alarms] ⊆ l) :
    Only l s (t.evict slot) ↔ Only l s t := by
  simp only [List.cons_subset] at h
  unfold State.evict
  try dsimp only
  (repeat' split) <;> simp [h]

@[simp] theorem only_makeStale {slot : Nat} (h : [Block.peers] ⊆ l) :
    Only l s (t.makeStale slot) ↔ Only l s t := by
  simp only [List.cons_subset] at h
  unfold State.makeStale
  try dsimp only
  (repeat' split) <;> simp [h]

@[simp] theorem only_makeLost {slot : Nat} (h : [Block.peers, .tags, .alarms] ⊆ l) :
    Only l s (t.makeLost slot) ↔ Only l s t := by
  simp only [List.cons_subset] at h
  unfold State.makeLost
  try dsimp only
  (repeat' split) <;> simp [h]

@[simp] theorem only_discardFrame {c : FrameCheck} (h : [Block.radio, .alarms] ⊆ l) :
    Only l s (t.discardFrame c) ↔ Only l s t := by
  simp only [List.cons_subset] at h
  unfold State.discardFrame
  try dsimp only
  (repeat' split) <;> simp [h]

@[simp] theorem only_refusePayload (h : [Block.peers] ⊆ l) :
    Only l s (t.refusePayload) ↔ Only l s t := by
  simp only [List.cons_subset] at h
  unfold State.refusePayload
  try dsimp only
  (repeat' split) <;> simp [h]

@[simp] theorem only_takeStateFrame {f : RxFrame} {slot : Nat} (h : [Block.mail, .oc, .seq, .peers, .coord, .tags, .log, .alarms] ⊆ l) :
    Only l s (t.takeStateFrame f slot) ↔ Only l s t := by
  simp only [List.cons_subset] at h
  unfold State.takeStateFrame
  try dsimp only
  (repeat' split) <;> simp [h]

@[simp] theorem only_takeFaultFrame {f : RxFrame} {slot : Nat} (h : [Block.mail, .oc, .seq, .mech, .energy, .battery, .radio, .peers, .coord, .log, .alarms] ⊆ l) :
    Only l s (t.takeFaultFrame f slot) ↔ Only l s t := by
  simp only [List.cons_subset] at h
  unfold State.takeFaultFrame State.withPeer
  try dsimp only
  (repeat' split) <;> simp [h]

@[simp] theorem only_takeIsolateFrame {f : RxFrame} {slot : Nat} (h : [Block.mail, .oc, .seq, .mech, .gate, .energy, .battery, .peers, .coord, .tags] ⊆ l) :
    Only l s (t.takeIsolateFrame f slot) ↔ Only l s t := by
  simp only [List.cons_subset] at h
  unfold State.takeIsolateFrame State.withPeer
  try dsimp only
  (repeat' split) <;> simp [h]

@[simp] theorem only_carrierChange {present : Bool} (h : [Block.radio, .alarms] ⊆ l) :
    Only l s (t.carrierChange present) ↔ Only l s t := by
  simp only [List.cons_subset] at h
  unfold State.carrierChange
  try dsimp only
  (repeat' split) <;> simp [h]

@[simp] theorem only_badFrame {cause : BadCause} (h : [Block.radio, .alarms] ⊆ l) :
    Only l s (t.badFrame cause) ↔ Only l s t := by
  simp only [List.cons_subset] at h
  unfold State.badFrame
  try dsimp only
  (repeat' split) <;> simp [h]

@[simp] theorem only_keyUp (h : [Block.radio, .alarms] ⊆ l) :
    Only l s (t.keyUp) ↔ Only l s t := by
  simp only [List.cons_subset] at h
  unfold State.keyUp
  try dsimp only
  (repeat' split) <;> simp [h]

@[simp] theorem only_startSending (h : [Block.radio] ⊆ l) :
    Only l s (t.startSending) ↔ Only l s t := by
  simp only [List.cons_subset] at h
  unfold State.startSending
  try dsimp only
  (repeat' split) <;> simp [h]

@[simp] theorem only_endTail (h : [Block.radio] ⊆ l) :
    Only l s (t.endTail) ↔ Only l s t := by
  simp only [List.cons_subset] at h
  unfold State.endTail
  try dsimp only
  (repeat' split) <;> simp [h]

@[simp] theorem only_startRepeat (h : [Block.radio] ⊆ l) :
    Only l s (t.startRepeat) ↔ Only l s t := by
  simp only [List.cons_subset] at h
  unfold State.startRepeat
  try dsimp only
  (repeat' split) <;> simp [h]

@[simp] theorem only_setJammed (h : [Block.radio, .alarms] ⊆ l) :
    Only l s (t.setJammed) ↔ Only l s t := by
  simp only [List.cons_subset] at h
  unfold State.setJammed
  try dsimp only
  (repeat' split) <;> simp [h]

@[simp] theorem only_refill (h : [Block.radio] ⊆ l) :
    Only l s (t.refill) ↔ Only l s t := by
  simp only [List.cons_subset] at h
  unfold State.refill
  try dsimp only
  (repeat' split) <;> simp [h]

@[simp] theorem only_completeBlock (h : [Block.meas, .mail, .coord] ⊆ l) :
    Only l s (t.completeBlock) ↔ Only l s t := by
  simp only [List.cons_subset] at h
  unfold State.completeBlock
  try dsimp only
  (repeat' split) <;> simp [h]

@[simp] theorem only_lose (h : [Block.meas, .battery, .coord, .alarms] ⊆ l) :
    Only l s (t.lose) ↔ Only l s t := by
  simp only [List.cons_subset] at h
  unfold State.lose
  try dsimp only
  (repeat' split) <;> simp [h]

@[simp] theorem only_takeSet {x : SampleSet} (h : [Block.meas, .mail, .battery, .coord, .alarms] ⊆ l) :
    Only l s (t.takeSet x) ↔ Only l s t := by
  simp only [List.cons_subset] at h
  unfold State.takeSet
  try dsimp only
  (repeat' split) <;> simp [h]

@[simp] theorem only_takeTransfer {bytes : List Byte} (h : [Block.meas, .mail, .battery, .coord, .alarms] ⊆ l) :
    Only l s (t.takeTransfer bytes) ↔ Only l s t := by
  simp only [List.cons_subset] at h
  unfold State.takeTransfer
  try dsimp only
  (repeat' split) <;> simp [h]

@[simp] theorem only_startSequence (h : [Block.meas, .mail, .oc, .seq, .mech, .energy, .battery, .radio, .coord, .tags, .log, .alarms] ⊆ l) :
    Only l s (t.startSequence) ↔ Only l s t := by
  simp only [List.cons_subset] at h
  unfold State.startSequence
  try dsimp only
  (repeat' split) <;> simp [h]

@[simp] theorem only_respond {response : List Byte} {cause : Option Cause} {restart : Bool} (h : [Block.port] ⊆ l) :
    Only l s (t.respond response cause restart) ↔ Only l s t := by
  simp only [List.cons_subset] at h
  unfold State.respond
  try dsimp only
  (repeat' split) <;> simp [h]

@[simp] theorem only_respondStatus {status : PortStatus} (h : [Block.port] ⊆ l) :
    Only l s (t.respondStatus status) ↔ Only l s t := by
  simp only [List.cons_subset] at h
  unfold State.respondStatus
  try dsimp only
  (repeat' split) <;> simp [h]

@[simp] theorem only_serveRead {index last : Nat} {area : Option (List Byte)} (h : [Block.port] ⊆ l) :
    Only l s (t.serveRead index last area) ↔ Only l s t := by
  simp only [List.cons_subset] at h
  unfold State.serveRead
  try dsimp only
  (repeat' split) <;> simp [h]

@[simp] theorem only_serveCause {index : Nat} (h : [Block.alarms, .port] ⊆ l) :
    Only l s (t.serveCause index) ↔ Only l s t := by
  simp only [List.cons_subset] at h
  unfold State.serveCause
  try dsimp only
  (repeat' split) <;> simp [h]

@[simp] theorem only_repend {cause : Option Cause} {clocked : Nat} (h : [Block.alarms] ⊆ l) :
    Only l s (t.repend cause clocked) ↔ Only l s t := by
  simp only [List.cons_subset] at h
  unfold State.repend
  try dsimp only
  (repeat' split) <;> simp [h]

@[simp] theorem only_tenMs (h : [Block.seq, .mech, .energy, .battery, .radio, .coord] ⊆ l) :
    Only l s (t.tenMs) ↔ Only l s t := by
  simp only [List.cons_subset] at h
  unfold State.tenMs
  try dsimp only
  (repeat' split) <;> simp [h]

@[simp] theorem only_wholeMs (h : [Block.clock, .seq, .mech, .energy, .battery, .radio, .coord] ⊆ l) :
    Only l s (t.wholeMs) ↔ Only l s t := by
  simp only [List.cons_subset] at h
  unfold State.wholeMs
  try dsimp only
  (repeat' split) <;> simp [h]

@[simp] theorem only_timeBase (h : [Block.clock, .seq, .mech, .energy, .battery, .radio, .coord] ⊆ l) :
    Only l s (t.timeBase) ↔ Only l s t := by
  simp only [List.cons_subset] at h
  unfold State.timeBase
  split <;> simp [h]

@[simp] theorem only_fineTimers (h : [Block.meas, .mech, .energy, .radio, .tags] ⊆ l) :
    Only l s (t.fineTimers) ↔ Only l s t := by
  simp only [List.cons_subset] at h
  unfold State.fineTimers
  try dsimp only
  (repeat' split) <;> simp [h]

@[simp] theorem only_tick (h : [Block.clock, .meas, .seq, .mech, .energy, .battery, .radio, .coord, .tags] ⊆ l) :
    Only l s (t.tick) ↔ Only l s t := by
  simp only [List.cons_subset] at h
  unfold State.tick
  try dsimp only
  (repeat' split) <;> simp [h]

end Sys2Proof.Machine
end

