-- ==== Sys2Proof/Tests/Slice0.lean ====
section
/-! SUPPORT. Tests: the WellFormed checks refuse an ill-formed command each, worked cases of the spec come out as written
there, and every statement's hypotheses are met by a concrete state and operands (`witness_…`). -/

namespace Sys2Proof.Tests

-- The kernel evaluations of this file run one after the other, within the memory of the check.
set_option Elab.async false

open Sys2Proof Sys2Proof.Machine

/-! ## WellFormed (R119, R185) -/

def longFrame : RxFrame := { sender := 2, seqNo := 0, flags := 0, payload := List.replicate 65 0#8, crc := 0 }

theorem test_wf_refuses_long_refused_frame : (Instr.frameRefused 0x51#8 longFrame).wf = false := by decide
theorem test_wf_refuses_long_state : (Instr.stateFrame longFrame).wf = false := by decide
theorem test_wf_refuses_long_fault : (Instr.faultFrame longFrame).wf = false := by decide
theorem test_wf_refuses_long_isolate : (Instr.isolateFrame longFrame).wf = false := by decide
theorem test_wf_refuses_long_tag : (Instr.tagFrame longFrame).wf = false := by decide
theorem test_wf_refuses_long_recall : (Instr.recallFrame longFrame).wf = false := by decide
theorem test_wf_refuses_long_crew_answer : (Instr.crewAnswerFrame longFrame).wf = false := by decide
theorem test_wf_refuses_long_bad_ask : (Instr.badAsk longFrame).wf = false := by decide
theorem test_wf_refuses_known_code : (Instr.unknownRequest 0x41#8 0#8).wf = false := by decide
theorem test_wf_takes_unknown_code : (Instr.unknownRequest 0x40#8 0#8).wf = true := by decide

/-! ## Worked cases of the spec -/

/-- R117: the CRC of the nine bytes 0x31 to 0x39 is 0x29B1. -/
theorem test_crc_of_check_bytes :
    crc16 [0x31#8, 0x32#8, 0x33#8, 0x34#8, 0x35#8, 0x36#8, 0x37#8, 0x38#8, 0x39#8] = 0x29B1#16 := by
  decide +kernel

/-- R76: trip-start Q of 25,000,000, 40,000 and 0 add 23, 0 and 0. -/
theorem test_wear_worked_case : addWear ⟨25000000, 40000, 0⟩ ⟨0, 0, 0⟩ = ⟨23, 0, 0⟩ := by decide

/-- R116: the default wake length 64 is raised to ceil(2100 * 1200 / 1000) + 32 = 2552 bits. -/
theorem test_default_wake_length : defaultSettings.radio.wake = 2552 := by decide

/-- The machine with control at the blocks, every block as power-on leaves it. -/
def idle : State := { State.reset with startUp := none }

/-- A step's next state. -/
def after (o : Host.Outcome State Fault Refusal) : State :=
  match o with
  | .next t => t
  | .fault _ => State.reset
  | .refused _ => State.reset

/-- A timer that has run at least so far, as a test that can be evaluated. -/
theorem held_iff (timer : Option Nat) (n : Nat) :
    (∃ e, timer = some e ∧ n ≤ e) ↔ timer.any (fun e => decide (n ≤ e)) = true := by
  cases timer <;> simp

/-- The tag that the panel key places. -/
def slotZero : LocalTag := ⟨.hotLine, .station, 0, 2, 1, 0, 0, false⟩

/-- R195: SET CLOCK sets the seconds and answers ACCEPTED. -/
theorem test_set_clock : (after (exec (.setClock 0#8 77#32) idle)).clock.seconds = 77 := by decide

/-- R182, R183: the read takes the lowest number pending. -/
theorem test_cause_read :
    (after (exec (.causeRead 0#8) (idle.onAlarms fun a => { a with flags := 6#12 }))).alarms.flags = 4#12 := by decide

/-! ## Witnesses: queue, clock, resets and start-up -/

theorem witness_StepTakesFrontCommand :
    ({ State.reset with pending := [.powerOn, .resetPin] } : State).pending = .powerOn :: [.resetPin] := rfl

def atTen : State :=
  idle.onClock fun _ => { ms := 9, fraction := 11, seconds := 4294967295, subSecond := 999, subFraction := 11 }

theorem witness_IdleStepsCountTime :
    atTen.pending = [] ∧ atTen.startUp = none ∧ ClockInv atTen.clock ∧ atTen.clock.fraction = 11 ∧
      (atTen.clock.ms + 1) % 10 = 0 ∧ ClockInv idle.clock ∧ idle.clock.fraction ≠ 11 ∧
      (State.reset.pending = [] ∧ State.reset.startUp ≠ none ∧ ClockInv State.reset.clock) := by
  refine ⟨rfl, rfl, ⟨?_, ?_, ?_⟩, rfl, rfl, ⟨?_, ?_, ?_⟩, ?_, rfl, ?_, ⟨?_, ?_, ?_⟩⟩ <;> decide

/-- R194: a RESET pin reset clears the time base, and the sub-second count runs on from the part that had passed. -/
theorem test_reset_keeps_sub_second :
    (after (exec .resetPin atTen)).clock =
      { ms := 0, fraction := 0, seconds := 4294967295, subSecond := 999, subFraction := 11 } := by decide

def restarting : State := idle.onPort fun p => { p with transaction := .taken [0#8, 0#8, 0#8] none true }

theorem witness_ResetsClearOrKeep : restarting.port.transaction = .taken [0#8, 0#8, 0#8] none true := rfl

theorem reset_starting_inv : StartingInv State.reset := by
  refine ⟨fun _ => ⟨?_, ?_⟩, fun _ => ⟨?_, ?_, ?_⟩, fun _ => ⟨?_, ?_⟩, fun _ => ?_⟩ <;> decide

/-- A RESET pin reset with a charge count kept. -/
def warm (cq : Nat) : State := after (exec .resetPin (idle.onBattery fun b => { b with cq }))

/-- Contacts, key and supply at START, with no carrier. -/
def pinsAt (closed key aux : Bool) : StartPins :=
  { openMade := !closed, closedMade := closed, keyOn := key, grade := .three, openPressed := true, closePressed := false
    confirmPressed := false, auxPresent := aux, carrier := false }

theorem witness_StartTakesStateFromContacts :
    (State.reset.startUp = some .powerOn ∧ State.reset.mech.operation = .none ∧ TablesInv State.reset ∧
        StartingInv State.reset) ∧
      ((warm 4320000001).startUp = some .resetPin ∧ (warm 4320000001).mech.operation = .none ∧
        TablesInv (warm 4320000001) ∧ StartingInv (warm 4320000001)) ∧
      (let t := after (exec (.imageRead [] (pinsAt true true true)) (warm 4320000001))
       t.cfg.battery.capacity * 3600 * t.cfg.identity.frequency = 4320000000 ∧ (4320000000 < 4320000001) ∧
         t.seq.phase = .ready ∧ t.battery.mode = .full) ∧
      (let t := after (exec (.imageRead [] (pinsAt false false false)) (warm 4320000000))
       (warm 4320000000).battery.cq = 4320000000 ∧ t.seq.phase ≠ .ready ∧ t.battery.mode = .survival) := by
  refine ⟨⟨?_, ?_, ⟨?_, ?_, ?_, ?_, ?_⟩, reset_starting_inv⟩,
    ⟨?_, ?_, ⟨?_, ?_, ?_, ?_, ?_⟩,
      ⟨fun _ => ⟨?_, ?_⟩, fun _ => ⟨?_, ?_, ?_⟩, fun _ => ⟨?_, ?_⟩, fun _ => ?_⟩⟩, ?_, ?_⟩
  all_goals decide +kernel

/-- The image of 415 bytes that holds nothing but the format code and the length. -/
def bareImage : List Byte :=
  let body := [0x5D#8, 0x41#8, 0x01#8, 0x9F#8] ++ List.replicate 409 0#8
  body ++ be16 (crc16 body).toNat

theorem witness_ImageDecidesOperation :
    State.reset.startUp = some .powerOn ∧ bareImage.length = 415 ∧ (List.replicate 415 0#8).length = 415 := by
  decide +kernel

theorem witness_StartUpTakesNoCommand :
    State.reset.startUp ≠ none ∧ (Instr.sampleSet []).isPortRequest = false ∧
      (Instr.sampleSet []).takenInStartUp = false ∧ (Instr.trip 0#8).isPortRequest = true ∧
      State.reset.port.transaction = .idle := by decide

/-! ## Witnesses: measurement -/

def set0 : SampleSet := { count := 0, ia := -32768, ib := 32767, ic := 1, vsrc := 0, vload := -1, aux := none }
def set1 : SampleSet := { set0 with count := 1 }
def set15 : SampleSet := { set0 with count := 15, aux := some ⟨65535, -32768, 0, 65535, 32767⟩ }

theorem set0_sendable : set0.Sendable := by
  refine ⟨by decide, ⟨?_, ?_, ?_, ?_, ?_⟩, by decide, by intro g h; cases h⟩ <;> constructor <;> decide

theorem set1_sendable : set1.Sendable := by
  refine ⟨by decide, ⟨?_, ?_, ?_, ?_, ?_⟩, by decide, by intro g h; cases h⟩ <;> constructor <;> decide

theorem witness_SampleSetLayoutReadsBack : set15.Sendable := by
  refine ⟨by decide, ⟨?_, ?_, ?_, ?_, ?_⟩, by decide, ?_⟩
  iterate 5 constructor <;> decide
  intro g h
  cases h
  refine ⟨by decide, ⟨by decide, by decide⟩, by decide, by decide, ⟨by decide, by decide⟩⟩

def filling (position discards last : Nat) : State :=
  idle.onMeas fun m => { m with state := .sound, filling := true, position, discards, lastCount := some last }

theorem witness_ArrivalsOutOfOrderAreCounted :
    (idle.startUp = none ∧
      ¬ (bits (byteAt [0xA0#8] 0) 5 3 = 5 ∧ [0xA0#8].length = (if bitSet (byteAt [0xA0#8] 0) 4 then 21 else 11) ∧
          (bitSet (byteAt [0xA0#8] 0) 4 = true → bits (byteAt [0xA0#8] 0) 0 4 = 15))) ∧
      set1.Sendable ∧ set1.count ≠ 0 ∧ set1.count ≠ (15 + 1) % 16 ∧
      ((filling 31 2 15).startUp = none ∧ (filling 31 2 15).meas.filling = true ∧ 0 < (filling 31 2 15).meas.position ∧
        (filling 31 2 15).meas.discards < 3 ∧ (filling 31 2 15).meas.state ≠ .lost ∧
        (filling 31 2 15).meas.lastCount = some 15) ∧
      (set0.Sendable ∧ set0.count = 0 ∧ set0.count ≠ (14 + 1) % 16 ∧ (filling 1 2 14).meas.lastCount = some 14 ∧
        0 < (filling 1 2 14).meas.position ∧ (filling 1 2 14).meas.discards < 3) ∧
      ((filling 0 3 15).meas.position = 0 ∧ (filling 0 3 15).meas.discards < 4 ∧
        (filling 0 3 15).meas.state ≠ .lost ∧ (filling 0 3 15).meas.lastCount = some 15) ∧
      ((filling 1 3 15).meas.filling = true ∧ 0 < (filling 1 3 15).meas.position ∧
        3 ≤ (filling 1 3 15).meas.discards ∧ (filling 1 3 15).meas.state ≠ .lost ∧
        ((filling 1 3 15).battery.test ≠ .running ∨ (filling 1 3 15).meas.src.presence ≠ .live)) := by
  refine ⟨by decide, set1_sendable, by decide, by decide, by decide, ⟨set0_sendable, by decide⟩, ?_⟩
  decide

/-- R3, R15: the fourth discard in a row makes measurement LOST and counts one loss. -/
theorem test_fourth_discard_loses_measurement :
    (after (exec (.sampleSet (sampleBytes set1)) (filling 1 3 15))).meas.state = .lost ∧
      (after (exec (.sampleSet (sampleBytes set1)) (filling 1 3 15))).meas.losses = 1 := by decide

theorem witness_InOrderSetJoinsBlock :
    set0.Sendable ∧ (filling 30 0 15).startUp = none ∧ (filling 30 0 15).meas.position < 31 ∧
      (filling 30 0 15).meas.lastCount = some 15 ∧ set0.count = (15 + 1) % 16 ∧
      (filling 30 0 15).meas.filling = true ∧ set1.Sendable ∧ idle.meas.lastCount = none ∧
      idle.meas.filling = false ∧ set1.count ≠ 0 := by
  refine ⟨set0_sendable, rfl, by decide, rfl, rfl, rfl, set1_sendable, rfl, rfl, by decide⟩

theorem witness_CompletedBlockIsPublished :
    set15.Sendable ∧ (filling 31 0 14).startUp = none ∧ (filling 31 0 14).meas.filling = true ∧
      (filling 31 0 14).meas.position = 31 ∧ (filling 31 0 14).meas.state ≠ .lost ∧
      (filling 31 0 14).meas.lastCount = some 14 ∧ set15.count = (14 + 1) % 16 ∧ 256 < 257 :=
  ⟨witness_SampleSetLayoutReadsBack, rfl, rfl, rfl, by decide, rfl, rfl, by decide⟩

def gapped : State := (filling 31 0 14).onMeas fun m => { m with gap := some idle.derived.gapLimit }

theorem witness_GapLimitLosesMeasurement :
    gapped.startUp = none ∧ gapped.meas.state ≠ .lost ∧ gapped.meas.gap = some idle.derived.gapLimit ∧
      gapped.derived.gapLimit ≤ idle.derived.gapLimit ∧
      (gapped.battery.test ≠ .running ∨ gapped.meas.src.presence ≠ .live) :=
  ⟨rfl, by decide, rfl, Nat.le_refl _, .inl (by decide)⟩

/-! ## Witnesses: overcurrent -/

def pub (q : Nat) : Publication :=
  { q := ⟨q, 0, 0, 0⟩, clips := Quad.none, srcWas := .live, src := .live, loadWas := .live, load := .live
    aux := none, auxNew := false, sound := true, time := 0, lossRuns := true, lastPickup := none }

def withBlock (u : UnitState) (q : Nat) : State :=
  (idle.onMail fun m => { m with overcurrent := [pub q] }).onOc fun o =>
    { o with
      unit := u, offer := some ⟨1, .fast, true, true, false, true⟩, active := some ⟨1, .fast, true, true, false⟩
      fastArmed := true, delayedArmed := true }

def peer2 : Peer :=
  { address := 2, identity := some ⟨.midpoint, true, 3, 4⟩, freshness := .fresh, interval := 60000
    provisional := false, lastHeard := 0, sequenceSet := [8], restarted := false, economyHeard := false
    lastState := none, fault := none, isolation := none }

/-- A station of a role on segments 2 and 3, in a sequence phase. -/
def station (r : Role) (p : SeqPhase) (s : State) : State :=
  { s with
    loader :=
      { s.loader with
        settings :=
          { s.loader.settings with
            identity :=
              { s.loader.settings.identity with role := r, sourceSegment := 2, loadSegment := 3 } } }
    seq := { s.seq with phase := p } }

/-- A HEAD whose load segment 3 is the source segment of peer 2, which told of a fault at a time before now. -/
def warned (heard now : Nat) (s : State) : State :=
  { station .head s.seq.phase s with
    clock := { s.clock with ms := now }
    peers :=
      { s.peers with
        slots := [some { peer2 with fault := some ⟨7, ⟨true, false, false, false⟩, 4, 1, false, heard⟩ }] } }

theorem warned_record (heard now : Nat) (s : State) :
    BlockingRecord (warned heard now s) { peer2 with fault := some ⟨7, ⟨true, false, false, false⟩, 4, 1, false, heard⟩ }
      ⟨.midpoint, true, 3, 4⟩ :=
  ⟨by simp [warned, PeerTable.held], rfl, rfl, rfl, ⟨rfl, by show (3 : Nat) ≠ 0; decide⟩,
    by show Role.head ≠ .tie; decide, by decide⟩

/-- R39: the first block of a new event empties the event summary and begins it with its own element and peak. -/
theorem test_first_block_begins_event_summary :
    (after (exec .blockEvaluation ((withBlock .watching 1000000).onOc fun o =>
        { o with eventSummary := { EventSummary.empty with peak := ⟨0, 5000000, 0, 0⟩, holdUsed := true } }))).oc.eventSummary =
      { EventSummary.empty with elements := ⟨true, false, false, false⟩, peak := ⟨1000000, 0, 0, 0⟩ } := by decide

theorem witness_BlockEvaluationTakesPublication :
    (withBlock .quiet 0).startUp = none ∧ (withBlock .quiet 0).mail.overcurrent = pub 0 :: [] ∧
      (withBlock .quiet 0).oc.unit = .quiet ∧ (withBlock .demanded 0).oc.unit = .demanded := by
  refine ⟨rfl, rfl, rfl, rfl⟩

theorem default_fast_curve :
    defaultSettings.protection.fastCurve =
      [⟨8, 64, true⟩, ⟨12, 256, true⟩, ⟨16, 1024, true⟩, ⟨32, 16384, true⟩, ⟨80, 1048576, true⟩] ++
        List.replicate 11 ⟨0, 1, false⟩ := by decide

theorem default_delayed_curve :
    defaultSettings.protection.delayedCurve =
      [⟨8, 32, true⟩, ⟨12, 128, true⟩, ⟨16, 512, true⟩, ⟨32, 4096, true⟩, ⟨80, 131072, true⟩,
        ⟨160, 1048576, true⟩] ++ List.replicate 10 ⟨0, 1, false⟩ := by decide

theorem witness_PickupAndReachedPointAreExact :
    idle.loader.derived = deriveSettings idle.loader.settings ∧ SettingsInRange idle.loader.settings := by
  have fast : CurveInRange defaultSettings.protection.fastCurve := by
    rw [default_fast_curve]
    exact ⟨rfl, ⟨_, _, rfl, rfl, rfl⟩, by simp [curveRises, within, List.replicate]⟩
  have delayed : CurveInRange defaultSettings.protection.delayedCurve := by
    rw [default_delayed_curve]
    exact ⟨rfl, ⟨_, _, rfl, rfl, rfl⟩, by simp [curveRises, within, List.replicate]⟩
  refine ⟨rfl, ⟨?_, ?_, ⟨?_, ?_, fast, delayed, ?_, ?_, ?_, ?_, ?_⟩, ?_, ?_, ?_, ?_, ?_, ?_, ⟨?_, ?_, ?_, ?_⟩⟩⟩
  case refine_17 =>
    intro e he
    cases he
  all_goals repeat' first | decide | constructor
  intro d hd
  have listed : d ∈ [2000, 10000, 15000] := hd
  have : d = 2000 ∨ d = 10000 ∨ d = 15000 := by simpa using listed
  rcases this with rfl | rfl | rfl <;> constructor <;> decide

theorem witness_AccumulatorsMoveByReachedPoint :
    (withBlock .running 1000000).startUp = none ∧ (withBlock .running 1000000).mail.overcurrent = pub 1000000 :: [] ∧
      (withBlock .running 0).oc.unit = .running ∧ (withBlock .hold 0).oc.unit = .hold ∧
      (withBlock .running 0).oc.active = some ⟨1, .fast, true, true, false⟩ ∧
      (let s := (withBlock .hold 0).onOc fun u => { u with active := some ⟨1, .fast, true, false, true⟩ }
       s.oc.active = some ⟨1, .fast, true, false, true⟩ ∧ s.oc.fastArmed = true) :=
  ⟨rfl, rfl, rfl, rfl, rfl, rfl, rfl⟩

def begunIn (u : UnitState) : State := (withBlock u 1000000).onSeq fun q => { q with phase := .timing }

def hotForcedBlock (u : UnitState) : State :=
  (withBlock u 1000000).onOc fun o => { o with active := some ⟨1, .fast, true, false, true⟩, fastArmed := false }

theorem witness_RunningEntryLoadsOffer :
    ((withBlock .watching 1000000).startUp = none ∧
        (withBlock .watching 1000000).mail.overcurrent = pub 1000000 :: [] ∧
        (withBlock .watching 1000000).oc.unit = .watching ∧
        (withBlock .watching 1000000).oc.offer = some ⟨1, .fast, true, true, false, true⟩ ∧
        ((withBlock .watching 1000000).pickedSet (pub 1000000)).any = true) ∧
      ((hotForcedBlock .hold).oc.unit = .hold ∧ (hotForcedBlock .running).oc.unit = .running ∧
        (hotForcedBlock .hold).oc.active = some ⟨1, .fast, true, false, true⟩ ∧
        (hotForcedBlock .hold).mail.overcurrent = pub 1000000 :: [] ∧
        (hotForcedBlock .hold).oc.fastArmed = false) := by decide

/-- The key ON, with hot-line mode in force by its tag and by the tags of further slots. -/
def keyed (more : List LocalSlot) (s : State) : State :=
  (s.onTags fun x => { x with keyOn := true, slots := ⟨some slotZero, 1⟩ :: more }).onSeq fun q =>
    { q with hotLine := true }

theorem witness_RunningEntryLoadsOffer_key :
    (let s := begunIn .hold
     s.tags.keyOn = false ∧ HasHeld s.tags.keyInput 50 50 s.tags.keyOn ∧ s.tags.slots.length = 8 ∧
       s.seq.hotLine = false ∧ s.seq.phase = .timing ∧ s.oc.unit = .hold ∧ (begunIn .running).oc.unit = .running ∧
       s.oc.offer = some ⟨1, .fast, true, true, false, true⟩ ∧
       (s.onSeq fun q => { q with phase := .reclaim }).seq.phase = .reclaim ∧
       (s.onSeq fun q => { q with phase := .tripping }).seq.phase = .tripping ∧
       (s.onSeq fun q => { q with phase := .standby }).seq.phase = .standby ∧
       (s.onSeq fun q => { q with hotLine := true }).seq.hotLine = true) ∧
      (let s := keyed [] (begunIn .running)
       s.tags.keyOn = true ∧ HasHeld s.tags.keyInput 50 50 s.tags.keyOn ∧ (s.tags.slot 0).tag = some slotZero ∧
         s.seq.hotLine = true ∧ s.seq.phase = .timing ∧ s.oc.unit ≠ .quiet ∧ s.startUp = none ∧
         (keyed [] idle).seq.phase = .lockout) ∧
      ¬ OtherHotLine (keyed [] (begunIn .running)) ∧
      OtherHotLine (keyed [⟨some slotZero, 1⟩] (begunIn .running)) := by
  simp only [HasHeld, StillToTake, held_iff]
  refine ⟨by decide, by decide, ?_, .inl ⟨1, slotZero, by decide, rfl, rfl⟩⟩
  rintro (⟨n, tag, first, present, -⟩ | ⟨e, member, -⟩)
  · cases n with
    | zero => exact first rfl
    | succ n => cases present
  · cases List.eq_of_mem_replicate (show some e ∈ List.replicate 24 none from member)

/-- R27, R58, R59: a begin in READY replaces the offer alone; the end gives it back with the curve of its shot. -/
theorem test_hot_line_updates_offer :
    (let s := (withBlock .watching 0).onSeq fun q => { q with phase := .ready }
     let t := after (exec (.hotLineKey true 50 .two) s)
     let u := after (exec (.hotLineKey false 50 .two) t)
     t.oc.offer = some ⟨1, .fast, true, false, true, true⟩ ∧ t.oc.active = s.oc.active ∧
       u.oc.offer = some ⟨1, .fast, true, true, false, true⟩ ∧ u.seq.hotLine = false) := by decide

/-- R35: a FAULT heard within the coordination window, at its end among them, fast-blocks a RUNNING entry. -/
theorem witness_fault_heard_recently :
    (let s := warned 1000 (1000 + idle.cfg.protection.window) (withBlock .watching 1000000)
     FaultHeardRecently s ∧ (after (exec .blockEvaluation s)).oc.fastBlocked = true) ∧
      ¬ FaultHeardRecently (warned 1000 (1010 + idle.cfg.protection.window) (withBlock .watching 1000000)) := by
  refine ⟨⟨⟨_, _, _, warned_record 1000 _ _, rfl, by decide⟩, by decide⟩, ?_⟩
  rintro ⟨q, id, r, h, hr, late⟩
  have hq := h.held
  simp only [warned, PeerTable.held, List.filterMap_cons, List.filterMap_nil, id_eq, List.mem_singleton] at hq
  subst hq
  cases hr
  revert late
  decide

/-- A block at the 10-fold multiple fills FAST at once, below it the unit goes on, and a quiet one ends timing
(R28, R32). -/
theorem witness_RunningBlockDecidesDemandOrHold :
    (withBlock .running 1000000).oc.unit = .running ∧
      (after (exec .blockEvaluation (withBlock .running 100000000))).oc.unit = .demanded ∧
      (after (exec .blockEvaluation (withBlock .running 1000000))).oc.unit = .running ∧
      (after (exec .blockEvaluation (withBlock .running 0))).oc.unit = .watching ∧
      BlockingPeerHeld (warned 0 0 (withBlock .running 100000000)) ∧ 0 < idle.cfg.protection.holdCount ∧
      (after (exec .blockEvaluation (warned 0 0 (withBlock .running 100000000)))).oc.unit = .hold := by
  refine ⟨rfl, ?_, ?_, ?_, ⟨_, _, warned_record 0 0 _⟩, ?_, ?_⟩ <;> decide

def holding : State := (withBlock .hold 1000000).onOc fun o => { o with hold := 1, fast := ⟨1048576, 0, 0, 0⟩ }

theorem witness_HoldCounterExpiryDemandsFast :
    holding.startUp = none ∧ holding.mail.overcurrent = pub 1000000 :: [] ∧ holding.oc.unit = .hold ∧
      holding.oc.hold = 1 ∧ holding.oc.active = some ⟨1, .fast, true, true, false⟩ ∧
      (after (exec .holdCounterExpiry holding)).mail.reports =
        [.demand .fast ⟨true, false, false, false⟩ 1] ∧
      (let s := holding.onOc fun o => { o with hold := 2 }
       s.oc.unit = .hold ∧ 1 < s.oc.hold ∧ (after (exec .blockEvaluation s)).oc.hold = 1 ∧
         (after (exec .blockEvaluation s)).oc.unit = .hold ∧ (after (exec .blockEvaluation s)).mail.reports = []) ∧
      (let s := holding.onOc fun o => { o with hold := 2, active := some ⟨1, .fast, true, false, true⟩ }
       (after (exec .blockEvaluation s)).oc.unit = .demanded) ∧
      (let s := holding.onOc fun o => { o with fast := Quad.zero }
       (after (exec .blockEvaluation s)).oc.unit = .running) ∧
      (let s := holding.onOc fun o => { o with hold := 2, delayed := ⟨1048576, 0, 0, 0⟩ }
       (after (exec .blockEvaluation s)).mail.reports =
         [.demand .delayed ⟨true, false, false, false⟩ 1]) := by decide

def passage : ShotSummary := ⟨1, ⟨true, false, false, false⟩, 4, false, true⟩
def indicating : State := idle.onMail fun m => { m with passages := [passage] }

def evolving (run q : Nat) : State := (withBlock .running q).onOc fun o => { o with passageRun := run }

def crowded (first : NoticeKind) : State :=
  indicating.onRadio fun r =>
    { r with
      outbox :=
        (first :: List.replicate 7 .tag).map fun kind =>
          { kind, payload := [], made := 0, total := 1, seqNo := none, replaced := false, attempted := false } }

theorem witness_PassageIndicationOffersFault :
    (let confirm := idle.cfg.protection.passageConfirm
     (evolving 0 0).startUp = none ∧ (evolving 0 0).mail.overcurrent = pub 0 :: [] ∧
       (evolving 0 0).oc.offer = some ⟨1, .fast, true, true, false, true⟩ ∧
       ((evolving 0 0).pickedSet (pub 0)).any = false ∧
       ((evolving 0 1000000).pickedSet (pub 1000000)).any = true ∧ (evolving 0 1000000).oc.passageRun + 1 < confirm ∧
       confirm ≤ (evolving (confirm - 1) 1000000).oc.passageRun + 1 ∧
       (summaryBefore (evolving 0 1000000) ⟨1, .fast, true, true, false, true⟩) = none) ∧
      (indicating.startUp = none ∧ indicating.mail.passages = passage :: [] ∧ indicating.loader.defaulted = false ∧
        indicating.radio.outbox.length < 8 ∧
        (indicating.onLoader fun l => { l with defaulted := true }).loader.defaulted = true) ∧
      (8 ≤ (crowded .state).radio.outbox.length ∧
        (((crowded .state).radio.outbox.head?).map Notice.kind) = some .state ∧ (crowded .state).txKeyOn = false) ∧
      (8 ≤ (crowded .tag).radio.outbox.length ∧ ∀ n ∈ (crowded .tag).radio.outbox, n.kind ≠ .state) := by decide

theorem idle_oc_inv : OcInv idle.oc := by refine ⟨?_, ?_, ?_, ?_, ?_⟩ <;> decide

theorem witness_AccumulatorInvariantKept : OcInv idle.oc ∧ ∃ t, step idle = .next t := ⟨idle_oc_inv, _, rfl⟩

/-! ## Witnesses: sequence -/

def inPhase (p : SeqPhase) : State := idle.onSeq fun q => { q with phase := p }
def reporting (p : SeqPhase) (r : OcReport) : State := (inPhase p).onMail fun m => { m with reports := [r] }

theorem witness_PickupEntersTiming :
    (reporting .ready (.pickup true)).startUp = none ∧
      (reporting .ready (.pickup true)).mail.reports = .pickup true :: [] ∧
      (reporting .ready (.pickup true)).seq.phase = .ready ∧
      (reporting .reclaim (.pickup false)).seq.phase = .reclaim := ⟨rfl, rfl, rfl, rfl⟩

def faultEvent : EventContext := ⟨7, 5, .good, 0⟩
def timingIn (fromReady : Bool) : State :=
  (reporting .timing .timingEnded).onSeq fun q => { q with event := some faultEvent, fromReady }

theorem witness_TimingEndedReturns :
    (timingIn true).startUp = none ∧ (timingIn true).mail.reports = .timingEnded :: [] ∧
      (timingIn true).seq.phase = .timing ∧ (timingIn true).seq.event = some faultEvent ∧
      (timingIn true).seq.fromReady = true ∧ (timingIn false).seq.fromReady = false := ⟨rfl, rfl, rfl, rfl, rfl, rfl⟩

def reclaimed : State :=
  (withBlock .watching 1000000).onSeq fun q =>
    { q with phase := .reclaim, reclaimTimer := some 0, event := some faultEvent }

theorem witness_ReclaimExpiryEndsEvent :
    reclaimed.startUp = none ∧ reclaimed.seq.phase = .reclaim ∧ reclaimed.seq.reclaimTimer = some 0 ∧
      reclaimed.mail.reports = [] ∧ reclaimed.oc.unit = .watching ∧
      reclaimed.mail.overcurrent = pub 1000000 :: [] ∧ (reclaimed.pickedSet (pub 1000000)).any = true ∧
      (reporting .reclaim (.pickup false)).mail.reports = .pickup false :: [] := by decide

def demanded (p : Position) : State :=
  (reporting .timing (.demand .fast ⟨true, false, false, false⟩ 1)).onMech fun m => { m with position := p }

theorem witness_TripDemandFiresTripCoil :
    (demanded .closed).mail.reports = .demand .fast ⟨true, false, false, false⟩ 1 :: [] ∧
      (demanded .closed).startUp = none ∧ (demanded .closed).seq.phase = .timing ∧
      (demanded .closed).mech.operation = .none ∧ (demanded .closed).mech.position = .closed ∧
      (demanded .disagree).mech.position = .disagree ∧ (demanded .closed).battery.test ≠ .running := by decide

/-- R67: the trip takes the Q of the last block published, not of one published before it or evaluated. -/
theorem test_trip_takes_last_published_q :
    (after (exec .tripDemand ((demanded .closed).onMail fun m =>
        { m with overcurrent := [pub 7, pub 9] }))).mech.tripStartQ = some ⟨9, 0, 0⟩ := by decide

/-- Every check of the Close Gate holds, with the switch open. -/
def open_ (p : SeqPhase) (e : Energy) : State :=
  (((inPhase p).onTags fun t => { t with unconfirmed := false }).onMeas fun m => { m with state := .sound }).onEnergy
    fun _ => e

def bothReady : Energy := { Energy.reset with tripReady := true, closeReady := true }

theorem gate_passes (s : State) (position : s.mech.position = .opened ∨ s.mech.position = .closed)
    (atRest : s.mech.operation = .none) (confirmed : s.tags.unconfirmed = false) (sound : s.meas.state = .sound)
    (noOverflow : s.tags.overflow = false) (local_ : s.tags.slots = List.replicate 8 ⟨none, 0⟩)
    (feeder : s.tags.feeder = List.replicate 24 none) (trip : s.energy.tripReady = true)
    (close : s.energy.closeReady = true) : GatePasses s where
  position := position
  atRest := atRest
  confirmed := confirmed
  sound := sound
  noOverflow := noOverflow
  localTags := by
    intro x hx t ht
    rw [local_] at hx
    rw [List.eq_of_mem_replicate hx] at ht
    cases ht
  feederTags := by
    intro x hx t ht
    rw [feeder] at hx
    rw [List.eq_of_mem_replicate hx] at ht
    cases ht
  tripReady := trip
  closeReady := close

def expired (p : SeqPhase) (e : Energy) : State :=
  ((open_ p e).onSeq fun q => { q with deadTimer := some 0, waitTimer := some 0 }).onMail fun m =>
    { m with reasks := 1 }

def noRecharge (s : State) : State :=
  s.onLoader fun l => { l with settings := { l.settings with sequence := { l.settings.sequence with recharge := 0 } } }

theorem expired_gate (p : SeqPhase) : GatePasses (expired p bothReady) :=
  gate_passes _ (.inl rfl) rfl rfl rfl rfl rfl rfl rfl rfl

/-- No tag stands in a table. -/
theorem no_tag_blocks (s : State) (noOverflow : s.tags.overflow = false)
    (local_ : s.tags.slots = List.replicate 8 ⟨none, 0⟩) (feeder : s.tags.feeder = List.replicate 24 none) :
    ¬ TagBlocks s := by
  rintro (h | ⟨x, hx, t, ht, -⟩ | ⟨t, ht, -⟩)
  · simp [noOverflow] at h
  · rw [local_] at hx
    rw [List.eq_of_mem_replicate hx] at ht
    cases ht
  · rw [feeder] at ht
    cases List.eq_of_mem_replicate ht

theorem witness_GateAnswersDecideReclose :
    (((open_ .dead bothReady).onMech fun m => { m with position := .jammed }).mech.position = .jammed ∧
        (inPhase .dead).mech.position = .opened ∧ (inPhase .dead).mech.operation = .none ∧
        (inPhase .dead).tags.unconfirmed = true ∧
        ((inPhase .dead).onTags fun x => { x with unconfirmed := false }).meas.state ≠ .sound ∧
        TagBlocks ((open_ .dead bothReady).onTags fun x => { x with overflow := true }) ∧
        ¬ TagBlocks (open_ .dead Energy.reset) ∧ (open_ .dead Energy.reset).meas.state = .sound ∧
        (open_ .dead Energy.reset).energy.tripReady = false ∧
        ¬ TagBlocks (open_ .dead { Energy.reset with tripReady := true }) ∧
        (open_ .dead { Energy.reset with tripReady := true }).energy.closeReady = false) ∧
    GatePasses (expired .dead bothReady) ∧ (expired .dead bothReady).mech.position = .opened ∧
      (expired .dead bothReady).startUp = none ∧ (expired .dead bothReady).seq.phase = .dead ∧
      (expired .dead bothReady).seq.deadTimer = some 0 ∧
      (expired .dead Energy.reset).gateReason = some .tripEnergy ∧
      0 < (expired .dead Energy.reset).cfg.sequence.recharge ∧
      (noRecharge (expired .dead Energy.reset)).gateReason = some .tripEnergy ∧
      (noRecharge (expired .dead Energy.reset)).cfg.sequence.recharge = 0 ∧
      (inPhase .dead).gateReason = some .unconfirmed ∧ GatePasses (expired .rechargeWait bothReady) ∧
      (expired .rechargeWait bothReady).mail.reasks = 0 + 1 ∧
      (expired .rechargeWait { Energy.reset with tripReady := true }).gateReason = some .closeEnergy ∧
      (inPhase .rechargeWait).gateReason = some .unconfirmed ∧
      (expired .rechargeWait bothReady).seq.waitTimer = some 0 := by
  refine ⟨⟨rfl, rfl, rfl, rfl, ?_, .inl rfl, no_tag_blocks _ rfl rfl rfl, rfl, rfl, no_tag_blocks _ rfl rfl rfl, rfl⟩,
    expired_gate _, ?_, ?_, ?_, ?_, ?_, ?_, ?_, ?_, ?_, expired_gate _, ?_, ?_, ?_, ?_⟩ <;> decide

theorem idle_switch_inv : SwitchInv idle := by
  refine ⟨⟨?_, ?_, ?_, ?_, ?_⟩, ?_, ?_, ?_, ?_, ?_⟩ <;> decide

theorem witness_SwitchAndHotLineInvariantsKept :
    SwitchInv idle ∧ HotLineInv idle ∧ (∃ t, step idle = .next t) ∧ StartingInv State.reset ∧
      ∃ t, step State.reset = .next t ∧ t.startUp ≠ none := by
  refine ⟨idle_switch_inv, ⟨?_, ?_, ?_⟩, ⟨_, rfl⟩, reset_starting_inv, _, rfl, ?_⟩ <;> decide

/-! ## Witnesses: switch -/

def tripping : State :=
  (inPhase .tripping).onMech fun m =>
    { m with
      operation := .trip, tripCoil := true, operationTimer := some 200, tripStartQ := some ⟨1048576, 0, 0⟩
      position := .closed, contactOpen := false, contactClosed := true, openInput := ⟨true, some 600⟩
      closedInput := ⟨false, some 600⟩ }

def isolating (sectionalize isolate : Bool) : State :=
  tripping.onSeq fun q => { q with causes := ⟨false, true, sectionalize, isolate⟩ }

theorem witness_TripCompletionLeadsOn :
    ((isolating true true).seq.causes.sectionalize = true ∧ (isolating false true).seq.causes.isolate = true ∧
        (isolating false true).loader.defaulted = false ∧ (isolating false true).radio.outbox.length < 8 ∧
        8 ≤ ((isolating false true).onRadio fun _ => (crowded .tag).radio).radio.outbox.length ∧
        (∀ n ∈ (crowded .tag).radio.outbox, n.kind ≠ .state) ∧ tripping.seq.causes.sectionalize = false ∧
        tripping.seq.causes.isolate = false) ∧
    tripping.startUp = none ∧ tripping.mech.operation = .trip ∧ tripping.mech.tripStartQ = some ⟨1048576, 0, 0⟩ ∧
      tripping.seq.phase = .tripping ∧ tripping.mech.position ≠ .jammed ∧ tripping.mech.reading ≠ some false ∧
      levelNow tripping.mech.openInput tripping.cfg.switch.contactFilter tripping.mech.contactOpen = true ∧
      levelNow tripping.mech.closedInput tripping.cfg.switch.contactFilter tripping.mech.contactClosed = false := by
  decide

/-- R48: a completed trip of shot 1 of the default plan, with no cause and no mark, leads to DEAD. -/
theorem test_trip_of_first_shot_leads_to_dead :
    (after (exec .tripCompletion tripping)).seq.phase = .dead ∧
      (after (exec .tripCompletion tripping)).mech.wear = ⟨1, 0, 0⟩ := by decide

def closing (held : Bool) : State :=
  (inPhase .reclosing).onMech fun m =>
    { m with
      operation := .close, closeCoil := true, operationTimer := some 500, heldTrip := held
      openInput := ⟨false, some 600⟩, closedInput := ⟨true, some 600⟩ }

def disagreeing : State :=
  (inPhase .ready).onMech fun m => { m with position := .disagree, disagreeTimer := some 510 }

theorem witness_FailedOperationJams :
    (tripping.startUp = none ∧ tripping.mech.operation = .trip ∧ tripping.mech.operationTimer = some 200 ∧
        tripping.cfg.switch.tripLimit ≤ 200) ∧
      ((closing true).mech.operation = .close ∧ (closing true).mech.operationTimer = some 500 ∧
        (closing true).cfg.switch.closeLimit ≤ 500) ∧
      (disagreeing.mech.operation = .none ∧ disagreeing.mech.position = .disagree ∧
        disagreeing.mech.disagreeTimer = some 510 ∧ 510 ≤ 510) := by decide

theorem witness_CloseCompletionReclaimsOrTrips :
    (closing false).startUp = none ∧ (closing false).mech.operation = .close ∧
      (closing false).seq.phase = .reclosing ∧ (closing false).mech.heldTrip = false ∧
      (closing true).mech.heldTrip = true ∧ (closing true).mech.position ≠ .jammed ∧
      (closing true).mech.reading ≠ some true ∧
      levelNow (closing true).mech.openInput (closing true).cfg.switch.contactFilter
        (closing true).mech.contactOpen = false ∧
      levelNow (closing true).mech.closedInput (closing true).cfg.switch.contactFilter
        (closing true).mech.contactClosed = true := by decide

def closedIn (p : SeqPhase) : State :=
  (inPhase p).onMech fun m =>
    { m with contactOpen := false, contactClosed := true, position := .closed, lastClosed := true }

/-- The open contact made but not taken, for some twelfths of a millisecond. -/
def bouncing (p : SeqPhase) (elapsed : Nat) : State :=
  (closedIn p).onMech fun m => { m with openInput := ⟨true, some elapsed⟩ }

/-- The open contact seen made for 20 ms and not taken, the closed one at rest. -/
def bounced : State := (bouncing .ready 240).onMech fun m => { m with closedInput := ⟨true, none⟩ }

/-- Both contacts made, after the switch was last agreed OPEN. -/
def bothMade : State := disagreeing.onMech fun m => { m with contactOpen := true, contactClosed := true }

theorem witness_UnexpectedMoveIsReported :
    (NotYet (closedIn .ready).mech.openInput true 19 20 false ∧
        NotYet (closedIn .ready).mech.closedInput true 0 20 true ∧
        (closedIn .ready).mech.contactOpen = false ∧ (closedIn .ready).mech.contactClosed = true ∧
        (closedIn .ready).startUp = none ∧ (closedIn .ready).cfg.switch.contactFilter = 20) ∧
      (Settled (bouncing .ready 240).mech.openInput true 20 20 false ∧
        Settled (closedIn .ready).mech.closedInput false 20 20 true ∧ (closedIn .ready).mech.operation = .none ∧
        (closedIn .ready).mech.position ≠ .jammed ∧ (closedIn .ready).mech.lastClosed = true ∧
        (closedIn .ready).mech.reading ≠ some false ∧ (closedIn .ready).seq.phase.isClosed = true ∧
        (closedIn .ready).mech.reading ≠ none) ∧
      (Settled (inPhase .dead).mech.openInput false 20 20 true ∧ (inPhase .dead).mech.lastClosed = false ∧
        (inPhase .dead).mech.reading ≠ some true ∧ (inPhase .dead).seq.phase.isOpen = true ∧
        (inPhase .dead).mech.contactOpen = true) ∧
      (bothMade.mech.lastClosed = false ∧ bothMade.mech.operation = .none ∧ bothMade.mech.position ≠ .jammed ∧
        bothMade.mech.reading ≠ some false ∧ Settled bothMade.mech.closedInput false 20 20 true) ∧
      (StillToTake bounced.mech.openInput 0 20 bounced.mech.contactOpen ∧ bounced.startUp = none ∧
        Stands bounced.mech.closedInput true 0 bounced.mech.contactClosed) := by
  simp only [NotYet, Settled, Stands, StillToTake, held_iff]
  refine ⟨?_, ?_, ?_, ?_, ?_⟩ <;> decide

theorem witness_UnexpectedMoveIsReported_one_input :
    (let m := (closedIn .ready).mech
     (Settled m.openInput true 20 20 m.contactOpen ∧ NotYet m.closedInput false 19 20 m.contactClosed) ∧
       NotYet m.openInput true 19 20 m.contactOpen ∧ Settled m.closedInput false 20 20 m.contactClosed) ∧
      (let s := closedIn .lockout
       Settled s.mech.openInput true 20 20 s.mech.contactOpen ∧
         Settled s.mech.closedInput false 20 20 s.mech.contactClosed ∧ s.mech.operation = .none ∧
         s.mech.position ≠ .jammed ∧ s.mech.lastClosed = true ∧ s.mech.reading ≠ some false ∧
         s.seq.phase.isOpen = true) := by
  simp only [NotYet, Settled, StillToTake, held_iff]
  refine ⟨?_, ?_⟩ <;> decide

/-- R49, R74: an open taken in LOCKOUT counts a trip and leaves reason and state. -/
theorem test_unexpected_open_in_lockout :
    (after (exec (.contactReadingChange true 20 false 20) (closedIn .lockout))).mech.trips = 1 ∧
      (after (exec (.contactReadingChange true 20 false 20) (closedIn .lockout))).seq = (closedIn .lockout).seq := by
  decide

/-- A trip and a close in flight with both contacts open. -/
def travelling (s : State) : State := s.onMech fun m => { m with contactOpen := false, contactClosed := false }

theorem witness_UnexpectedMoveIsReported_travel :
    (let m := (closedIn .ready).mech
     m.operation = .none ∧ m.position ≠ .jammed ∧ m.contactOpen ≠ m.contactClosed ∧
       Settled m.openInput true 20 20 m.contactOpen ∧ Settled m.openInput false 0 20 m.contactOpen ∧
       Settled m.closedInput true 0 20 m.contactClosed ∧ Settled m.closedInput false 20 20 m.contactClosed) ∧
      (let m := ((closedIn .lockout).onMech fun m => { m with position := .jammed }).mech
       m.position = .jammed ∧ Settled m.openInput true 20 20 m.contactOpen) ∧
      (let m := tripping.mech
       m.operation = .trip ∧ m.position ≠ .jammed ∧ Settled m.openInput true 50 20 m.contactOpen ∧
         Settled m.openInput false 50 20 m.contactOpen ∧ Settled m.closedInput false 50 20 m.contactClosed ∧
         true ≠ m.contactOpen ∧ m.contactOpen ≠ m.contactClosed ∧ false = decide (m.operation = .close)) ∧
      (let m := (travelling tripping).mech
       Settled m.closedInput true 20 20 m.contactClosed ∧ Settled m.openInput false 50 20 m.contactOpen ∧
         true = decide (m.operation = .trip)) ∧
      (let m := (closing true).mech
       m.operation = .close ∧ m.position ≠ .jammed ∧ Settled m.openInput false 50 20 m.contactOpen ∧
         Settled m.closedInput true 50 20 m.contactClosed ∧ true ≠ m.contactClosed ∧
         true = decide (m.operation = .close)) := by
  simp only [Settled, StillToTake, held_iff]
  refine ⟨?_, ?_, ?_, ?_, ?_⟩ <;> decide

/-- R65: a level that has stood only 5 ms of the 15 since it was seen was interrupted, and its filter starts anew. -/
theorem test_interrupted_contact_starts_anew :
    (after (exec (.contactReadingChange true 5 true 30) (bouncing .ready 180))).mech.openInput = ⟨true, some 60⟩ ∧
      (after (exec (.contactReadingChange true 5 true 30) (bouncing .ready 180))).mech.position = .closed := by decide

def recloseNext : State := { expired .dead bothReady with pending := [.deadTimeExpiry] }
def chargedGroup : AuxGroup := ⟨27000, -100, 2300, 2500, 250⟩
def auxPub : Publication := { pub 0 with aux := some chargedGroup, auxNew := true }
def auxWaiting : State := idle.onMail fun m => { m with energy := [auxPub], battery := [auxPub] }

theorem witness_GateGuardsCloseCoilAndReadiness :
    (∃ t, step recloseNext = .next t ∧ recloseNext.mech.closeCoil = false ∧ t.mech.closeCoil = true) ∧
      (∃ t, step { auxWaiting with pending := [.auxUpdate] } = .next t ∧ auxWaiting.energy.tripReady = false ∧
        t.energy.tripReady = true) :=
  ⟨⟨_, rfl, by decide, by decide⟩, ⟨_, rfl, by decide, by decide⟩⟩

/-! ## Witnesses: energy and battery -/

theorem witness_AuxUpdatesAndTimeoutSetReadiness :
    auxWaiting.startUp = none ∧ auxWaiting.mail.energy = auxPub :: [] ∧ auxPub.auxNew = true ∧
      auxPub.aux = some chargedGroup ∧ auxWaiting.mech.tripCoil = false ∧ auxWaiting.battery.grade ≠ .absent ∧
      auxWaiting.energy.tripCharger = .waiting ∧
      (idle.onEnergy fun e => { e with aux := .valid, auxTimer := some 2000 }).energy.aux = .valid := by decide

theorem witness_AuxExpiriesCountEntriesToExpired :
    (∃ t, step idle = .next t) ∧ idle.pending.head? ≠ some .powerOn ∧ idle.startUp = none ∧
      idle.port.transaction = .idle := ⟨⟨_, rfl⟩, by decide, rfl, rfl⟩

def supplySeen (elapsed : Nat) : State := idle.onEnergy fun e => { e with supplyInput := ⟨true, some elapsed⟩ }

theorem witness_AuxSupplyChangeSetsPowerMode :
    idle.startUp = none ∧ idle.energy.supply = false ∧ HasHeld idle.energy.supplyInput 100 100 false ∧
      HasHeld (supplySeen 1200).energy.supplyInput 100 100 false ∧
      NotYet (supplySeen 1199).energy.supplyInput true 99 100 false ∧
      NotYet (supplySeen 2399).energy.supplyInput false 100 100 false ∧
      StillToTake (supplySeen 2400).energy.supplyInput 100 100 false ∧
      (idle.onEnergy fun e => { e with supply := true }).battery.grade = .critical ∧
      idle.mech.closeCoil = false ∧ idle.battery.test ≠ .running ∧
      powerModeTable (!idle.energy.supply) idle.battery.grade ≠ idle.battery.mode := by
  simp only [NotYet, StillToTake, HasHeld, held_iff]
  decide

def charging (c : BatteryCharger) (grade : BatteryGrade) (hold : Nat) : State :=
  (auxWaiting.onEnergy fun e => { e with supply := true }).onBattery fun b =>
    { b with charger := c, grade, seen := true, loadHold := hold, provisional := false }

theorem tapers_absorbing : Tapers (charging .absorb .good 0) auxPub chargedGroup := by
  refine ⟨?_, ?_, ?_, ?_, ?_, ?_, ?_, ?_, ?_⟩ <;> decide

theorem witness_ChargeCountAndChargerFollowPublications :
    (idle.mail.battery = [] ∧ idle.startUp = none ∧ (pub 0).aux = none ∧
        (idle.onMail fun m => { m with battery := [pub 0] }).mail.battery = pub 0 :: []) ∧
      ((charging .absorb .good 0).startUp = none ∧ (charging .absorb .good 0).mail.battery = auxPub :: [] ∧
        auxPub.aux = some chargedGroup ∧ auxPub.auxNew = true ∧ (charging .absorb .good 0).battery.test ≠ .running ∧
        NoTest (charging .absorb .good 0) chargedGroup ∧ Tapers (charging .absorb .good 0) auxPub chargedGroup ∧
        (charging .absorb .good 0).battery.grade ≠ .absent) ∧
      (NoTest (charging .float .good 0) chargedGroup ∧ ¬ Tapers (charging .float .good 0) auxPub chargedGroup ∧
        chargedGroup.vbat < 27001) ∧
      (NoTest (charging .fault .absent 0) chargedGroup ∧ (charging .fault .absent 0).battery.charger.forced = true) ∧
      ((charging .bulk .good 2).battery.loadHold = 2 ∧ { auxPub with auxNew := false }.auxNew = false) := by
  refine ⟨by decide, ⟨by decide, by decide, by decide, by decide, by decide, .inl (by decide), tapers_absorbing,
      by decide⟩,
    ⟨.inl (by decide), ?_, by decide⟩, ⟨.inl (by decide), by decide⟩, by decide⟩
  rintro ⟨-, -, h, -⟩
  revert h
  decide

def floatingAt (vbat : Nat) : State :=
  (charging .float .good 0).onMail fun m =>
    { m with battery := [{ auxPub with aux := some { chargedGroup with vbat } }] }

/-- R98: an aux update below the rebulk voltage (default 25,800 mV) takes FLOAT to BULK, and one at it does not. -/
theorem test_float_falls_to_bulk :
    (after (exec .chargeCount (floatingAt 25799))).battery.charger = .bulk ∧
      (after (exec .chargeCount (floatingAt 25800))).battery.charger = .float := by decide

def absorbing : State :=
  idle.onBattery fun b =>
    { b with charger := .absorb, absorbTimer := some 14400000, test := .pending, pendingTimer := some 86400000 }

def settling : State :=
  idle.onBattery fun b => { b with settleTimer := some 120000, settleCandidate := some .good }

/-- A publication is graded: the grade in effect, the first-grade mark and the load hold count before it. -/
def graded (grade : BatteryGrade) (provisional : Bool) (hold : Nat) : State :=
  auxWaiting.onBattery fun b => { b with grade, provisional, loadHold := hold }

theorem witness_BatteryTimersTakeEffect :
    (absorbing.startUp = none ∧ absorbing.battery.charger = .absorb ∧
        absorbing.battery.absorbTimer = some 14400000 ∧ absorbing.cfg.battery.absorbHours * 3600000 ≤ 14400000 ∧
        absorbing.battery.test = .pending ∧ absorbing.battery.pendingTimer = some 86400000) ∧
      (settling.startUp = none ∧ settling.battery.test ≠ .running ∧ settling.battery.loadHold = 0 ∧
        settling.battery.settleTimer = some 120000 ∧ settling.cfg.battery.settle * 1000 ≤ 120000 ∧
        settling.battery.settleCandidate = some .good ∧ BatteryGrade.good.code < settling.battery.grade.code ∧
        powerModeTable settling.energy.supply .good ≠ settling.battery.mode) ∧
      ((graded .good true 1).mail.battery = auxPub :: [] ∧ auxPub.aux = some chargedGroup ∧
        NoTest (graded .good true 1) chargedGroup ∧ (graded .good true 1).battery.loadHold ≤ 1 ∧
        (graded .good true 1).battery.provisional = true ∧ ¬ Tapers (graded .good true 1) auxPub chargedGroup) ∧
      ((graded .failed false 0).battery.provisional = false ∧
        (graded .good false 0).battery.grade.code < BatteryGrade.failed.code ∧
        BatteryGrade.good.code < (graded .failed false 0).battery.grade.code) ∧
      (1 < (graded .good false 2).battery.loadHold ∧ (graded .good false 2).battery.test ≠ .running) := by
  refine ⟨by decide, by decide, ⟨by decide, by decide, .inl (by decide), by decide, by decide, ?_⟩, by decide,
    by decide⟩
  rintro ⟨-, -, h, -⟩
  revert h
  decide

def testable : State :=
  (((inPhase .ready).onMeas fun m => { m with src := ⟨.live, 3, 0⟩ }).onEnergy fun _ => bothReady).onBattery fun b =>
    { b with
      charger := .float, held := some chargedGroup, seen := true, intervalTimer := some 604800000
      retryTimer := some 1800000 }

theorem testable_starts : TestMayStart testable chargedGroup := by
  refine ⟨?_, ?_, ?_, ?_, ?_, ?_, ?_⟩ <;> decide

theorem witness_LoadTestStartsOrWaits :
    TestMayStart testable chargedGroup ∧ testable.startUp = none ∧ testable.battery.test = .idle ∧
      testable.battery.intervalTimer = some 604800000 ∧
      testable.cfg.battery.testHours * 3600000 ≤ 604800000 ∧ testable.battery.retryTimer = some 1800000 ∧
      testable.cfg.battery.retryMinutes * 60000 ≤ 1800000 ∧
      (TestMustWait (testable.onBattery fun b => { b with charger := .bulk }) ∧
        TestMustWait (testable.onBattery fun b => { b with charger := .fault }) ∧
        TestMustWait (testable.onSeq fun q => { q with phase := .dead }) ∧
        TestMustWait (testable.onMech fun m => { m with operation := .trip }) ∧
        TestMustWait (testable.onMeas fun m => { m with src := ⟨.unknown, 0, 0⟩ }) ∧
        TestMustWait (testable.onEnergy fun _ => Energy.reset) ∧
        TestMustWait (testable.onBattery fun b => { b with held := none })) := by
  refine ⟨testable_starts, rfl, rfl, rfl, by decide, rfl, by decide, ?_⟩
  unfold TestMustWait
  refine ⟨?_, ?_, ?_, ?_, ?_, ?_, ?_⟩ <;> decide

def underTest (g : AuxGroup) : State :=
  idle.onBattery fun b =>
    { b with test := .running, charger := .test, durationTimer := some 10000, held := some g, v0 := 27000 }

/-- Under test with a block waiting for the Battery Manager. -/
def testedBlock (p : Publication) : State := (underTest chargedGroup).onMail fun m => { m with battery := [p] }

/-- Under test with the switch and the sequence of another state. -/
def testedIn (s : State) : State :=
  { s with
    battery := (underTest chargedGroup).battery
    meas := { s.meas with src := ⟨.live, 3, 0⟩, gap := some s.derived.gapLimit } }

def sagging : Publication := { auxPub with aux := some { chargedGroup with vbat := idle.cfg.battery.abortFloor - 1 } }

theorem witness_LoadTestIsJudged :
    ((underTest chargedGroup).startUp = none ∧ (underTest chargedGroup).battery.test = .running ∧
        (underTest chargedGroup).battery.durationTimer = some 10000 ∧
        (underTest chargedGroup).cfg.battery.duration * 1000 ≤ 10000 ∧
        (underTest chargedGroup).battery.held = some chargedGroup) ∧
      ((testedBlock (pub 1000000)).mail.battery = pub 1000000 :: [] ∧
        ((testedBlock (pub 1000000)).pickedSet (pub 1000000)).any = true ∧
        { pub 0 with src := .dead }.srcWas = .live ∧ { pub 0 with src := .dead }.src ≠ .live ∧
        sagging.auxNew = true ∧ (sagging.aux.map AuxGroup.vbat) = some (idle.cfg.battery.abortFloor - 1) ∧
        0 < idle.cfg.battery.abortFloor ∧ ((testedBlock auxPub).pickedSet auxPub).any = false ∧
        (auxPub.aux.map AuxGroup.vbat) = some 27000 ∧ idle.cfg.battery.abortFloor ≤ 27000) ∧
      ((testedIn (demanded .closed)).battery.test = .running ∧
        (testedIn (demanded .closed)).mail.reports = .demand .fast ⟨true, false, false, false⟩ 1 :: [] ∧
        (testedIn (demanded .closed)).seq.phase = .timing ∧ (testedIn tripping).seq.phase = .tripping) ∧
      ((testedIn (expired .dead bothReady)).seq.phase = .dead ∧
        (testedIn (expired .dead bothReady)).seq.deadTimer = some 0 ∧
        GatePasses (testedIn (expired .dead bothReady)) ∧
        (testedIn (expired .dead bothReady)).mech.position = .opened) ∧
      ((testedIn idle).meas.state ≠ .lost ∧ (testedIn idle).meas.gap = some idle.derived.gapLimit ∧
        (testedIn idle).derived.gapLimit ≤ idle.derived.gapLimit ∧ (testedIn idle).meas.src.presence = .live) := by
  refine ⟨by decide, by decide, by decide, ⟨rfl, rfl, gate_passes _ (.inl rfl) rfl rfl rfl rfl rfl rfl rfl rfl, rfl⟩,
    by decide⟩

theorem open_button_commands (s : State) (pressed : s.tags.openPressed = false)
    (input : s.tags.openInput = ⟨false, none⟩) : OpenCommand s (.openButton 50) := by
  refine .inl ⟨50, rfl, pressed, ?_, by decide⟩
  rintro ⟨-, e, running, -⟩
  rw [input] at running
  cases running

theorem close_button_commands (s : State) (pressed : s.tags.closePressed = false)
    (input : s.tags.closeInput = ⟨false, none⟩) : CloseCommand s (.closeButton 50) := by
  refine .inl ⟨50, rfl, pressed, ?_, by decide⟩
  rintro ⟨-, e, running, -⟩
  rw [input] at running
  cases running

theorem witness_LoadTestIsJudged_commands :
    (OpenCommand (testedIn (closedIn .ready)) (.openButton 50) ∧ OpenCommand (testedIn (closedIn .ready)) (.trip 0#8) ∧
        (testedIn (closedIn .ready)).seq.phase ∉ ([.dead, .rechargeWait, .lockout, .standby] : List SeqPhase) ∧
        (testedIn (closedIn .ready)).battery.test = .running) ∧
      (OpenCommand (testedIn idle) (.trip 0#8) ∧ (testedIn idle).seq.phase = .lockout) ∧
      (CloseCommand (testedIn (expired .lockout bothReady)) (.closeButton 50) ∧
        CloseCommand (testedIn (expired .lockout bothReady)) (.close 0#8) ∧
        GatePasses (testedIn (expired .lockout bothReady)) ∧
        (testedIn (expired .lockout bothReady)).seq.phase = .lockout) ∧
      (CloseCommand (testedIn idle) (.close 0#8) ∧ ¬ GatePasses (testedIn idle)) := by
  refine ⟨⟨open_button_commands _ rfl rfl, .inr (.inl ⟨rfl, rfl⟩), by decide, rfl⟩,
    ⟨.inr (.inl ⟨rfl, rfl⟩), rfl⟩,
    ⟨close_button_commands _ rfl rfl, .inr (.inl ⟨rfl, rfl⟩),
      gate_passes _ (.inl rfl) rfl rfl rfl rfl rfl rfl rfl rfl, rfl⟩, .inr (.inl ⟨rfl, rfl⟩), ?_⟩
  intro h
  cases h.confirmed

/-- R107: a pickup aborts the running test, and its load hold count is 2 (log entry 38). -/
theorem test_pickup_aborts_load_test :
    (after (exec .chargeCount (testedBlock (pub 1000000)))).battery.last.result = .aborted ∧
      (after (exec .chargeCount (testedBlock (pub 1000000)))).battery.loadHold = 2 := by decide

/-- R106: a discharge of 1,999 mA is a LOAD FAULT and one of 2,000 mA is judged; an R equal to a limit does not exceed it
(27,000 mV to 26,760 mV at 2,000 mA is 120 mOhm). -/
theorem test_load_test_limits :
    (judgeTest idle.cfg.battery 27000 26760 1999).1 = .loadFault ∧
      judgeTest idle.cfg.battery 27000 26760 2000 = (.pass, some 120) ∧
      judgeTest idle.cfg.battery 27000 26758 2000 = (.marginal, some 121) ∧
      (judgeTest idle.cfg.battery 27000 22999 20000).1 = .failed := by decide

theorem idle_battery_inv : BatteryInv idle := by refine ⟨?_, ?_, ?_, ?_, ?_⟩ <;> decide

theorem witness_BatteryInvariantKept : BatteryInv idle ∧ ∃ t, step idle = .next t := ⟨idle_battery_inv, _, rfl⟩

/-! ## Witnesses: radio -/

def tagNotice : Notice :=
  { kind := .tag, payload := [0#8], made := 0, total := 1, seqNo := some 5, replaced := false, attempted := true }

/-- A transmit state with one notice in hand, every timer long run out and the receiver on. -/
def sendingIn (tx : TxState) (n : Notice) : State :=
  idle.onRadio fun r =>
    { r with tx, rx := .listen, outbox := [n], guardTimer := some 500, timer := 5000, airTicks := 10000000 }

theorem witness_ChannelAccessCountsSlots :
    ((sendingIn .defer tagNotice).startUp = none ∧ (sendingIn .defer tagNotice).radio.rx ≠ .sleep ∧
        (sendingIn .defer tagNotice).radio.guardTimer = some 500 ∧
        (sendingIn .defer tagNotice).cfg.radio.slot ≤ 500) ∧
      ((sendingIn .backoff tagNotice).onRadio fun r => { r with backoff := 1 }).radio.backoff = 0 + 1 ∧
      (sendingIn .backoff tagNotice).cfg.radio.slot ≤ (sendingIn .backoff tagNotice).radio.timer ∧
      (sendingIn .backoff tagNotice).radio.carrier = false ∧ (sendingIn .backoff tagNotice).radio.jammed = false ∧
      (let s := (sendingIn .defer tagNotice).onRadio fun r => { r with carrier := true, jamTimer := 15000 }
       s.radio.rx = .listen ∧ s.radio.txKey = false ∧ s.radio.carrier = true ∧ s.radio.jammed = false ∧
         s.cfg.radio.busy * 1000 ≤ s.radio.jamTimer ∧
         (s.onRadio fun r => { r with jammed := true }).radio.jammed = true) := by decide

theorem witness_KeyUpBuildsFrame :
    ((sendingIn .backoff tagNotice).startUp = none ∧ (sendingIn .backoff tagNotice).radio.current = some tagNotice ∧
        (sendingIn .backoff tagNotice).radio.tx = .backoff ∧ (sendingIn .backoff tagNotice).radio.backoff = 0 ∧
        (sendingIn .backoff tagNotice).radio.windowSyncs < 32 ∧ tagNotice.seqNo = some 5) ∧
      (sendingIn .backoff { tagNotice with seqNo := none }).radio.current = some { tagNotice with seqNo := none } ∧
      ((sendingIn .keyup tagNotice).radio.tx = .keyup ∧
        (sendingIn .keyup tagNotice).cfg.radio.keyUp ≤ (sendingIn .keyup tagNotice).radio.timer) ∧
      (let at_ (bit : Nat) : State :=
          (sendingIn .sending tagNotice).onRadio fun r =>
            { r with preamble := 32, frame := [0x51#8, 7#8], airTicks := bit * 10 }
       (at_ 0).cfg.radio.bitRate = 1200 ∧ (at_ 31).radio.tx = .sending ∧
         (at_ 31).radio.airTicks * 1200 / 12000 = 31 ∧ (at_ 32).radio.airTicks * 1200 / 12000 = 32 + 0 ∧
         (at_ 63).radio.airTicks * 1200 / 12000 = 48 + 8 * 1 + 7 ∧ (at_ 63).radio.frame[1]? = some 7#8 ∧
         48 + 8 * (at_ 64).radio.frame.length ≤ (at_ 64).radio.airTicks * 1200 / 12000) := by decide

/-- R114, R115: at 1200 bps the line is high at the first preamble bit and low at the second; the sync word 0xE25A begins
high and ends low. -/
theorem test_tx_data_of_preamble_and_sync :
    (let at_ (bit : Nat) : Bool :=
        ((sendingIn .sending tagNotice).onRadio fun r => { r with preamble := 32, airTicks := bit * 10 }).txData
     [at_ 0, at_ 1, at_ 32, at_ 35, at_ 46, at_ 47]) = [true, false, true, false, true, false] := by decide

theorem witness_TransmissionEndsService :
    ((sendingIn .sending tagNotice).startUp = none ∧ (sendingIn .sending tagNotice).radio.tx = .sending ∧
        ((sendingIn .sending tagNotice).radio.preamble + 16 + 8 * (sendingIn .sending tagNotice).radio.frame.length) *
            12000 ≤
          (sendingIn .sending tagNotice).radio.airTicks * (sendingIn .sending tagNotice).cfg.radio.bitRate) ∧
      ((sendingIn .tail tagNotice).radio.current = some tagNotice ∧
        (sendingIn .tail tagNotice).cfg.radio.tail ≤ (sendingIn .tail tagNotice).radio.timer ∧
        tagNotice.total ≤ tagNotice.made + 1 ∧ tagNotice.replaced = false ∧
        (sendingIn .tail tagNotice).radio.outbox = [] ++ tagNotice :: []) ∧
      (sendingIn .tail { tagNotice with total := 3 }).radio.current = some { tagNotice with total := 3 } ∧
      ((sendingIn .spacing tagNotice).radio.tx = .spacing ∧
        (sendingIn .spacing tagNotice).cfg.radio.spacing ≤ (sendingIn .spacing tagNotice).radio.timer ∧
        (sendingIn .spacing tagNotice).radio.rx ≠ .sleep ∧ (sendingIn .spacing tagNotice).radio.jammed = false) := by
  decide

def dutyIn (d : Duty) (rx : RxState) : State := idle.onRadio fun r => { r with duty := d, rx }

theorem witness_ReceiverAndHourFollowTheirTimers :
    ((dutyIn (.listening 100) .listen).startUp = none ∧
        (dutyIn (.listening 100) .listen).radio.duty = .listening 100 ∧
        (dutyIn (.listening 100) .listen).cfg.radio.listen ≤ 100 ∧
        (dutyIn (.listening 100) .frame).radio.rx = .frame) ∧
      ((dutyIn (.sleeping 2000) .sleep).radio.duty = .sleeping 2000 ∧
        (dutyIn (.sleeping 2000) .sleep).cfg.radio.sleep ≤ 2000 ∧
        (dutyIn (.sleeping 2000) .sleep).radio.rx = .sleep) ∧
      ((idle.onRadio fun r => { r with hourTimer := some 3600000 }).radio.hourTimer = some 3600000 ∧
        idle.battery.mode = .survival) ∧
      (idle.loader.defaulted = false ∧
        (idle.onRadio fun r => { r with heartbeat := some 960000 }).radio.heartbeat = some 960000 ∧
        idle.cfg.radio.heartbeat * 1000 * 16 ≤ 960000) := by decide

/-- A frame of a kind with its CRC. -/
def framed (kind : Nat) (sender : Half) (flags : Byte) (payload : List Byte) : RxFrame :=
  { sender, seqNo := 9, flags, payload
    crc := crc16 ([byte kind] ++ be16 sender.toNat ++ [9#8, byte payload.length, flags] ++ payload) }

theorem frame_passes {s : State} {kind : Nat} {f : RxFrame}
    (h : f.payload.length ≤ 64 ∧
      crc16 ([byte kind] ++ be16 f.sender.toNat ++ [f.seqNo, byte f.payload.length, f.flags] ++ f.payload) = f.crc ∧
      (1 ≤ f.sender.toNat ∧ f.sender.toNat ≤ 4000) ∧ f.sender.toNat ≠ s.cfg.identity.address) :
    FramePasses s kind f := ⟨h.1, h.2.1, h.2.2.1, h.2.2.2⟩

/-- In FRAME of the given window detection. -/
def receiving (syncs : Nat) : State := idle.onRadio fun r => { r with rx := .frame, windowSyncs := syncs }

theorem receiving_is (n : Nat) : Receiving (receiving n) := ⟨rfl, rfl, rfl⟩

theorem witness_FramesThatFailAreCounted :
    ({ (dutyIn .off .listen).radio with search := 0x712D#16 }.search.shiftConcat false = 0xE25A#16 ∧
        (dutyIn .off .sleep).radio.rx ≠ .listen) ∧
      (idle.startUp = none ∧ (dutyIn .off .listen).radio.rx = .listen ∧
        (dutyIn .off .listen).radio.txKey = false) ∧
      Receiving (receiving 31) ∧ Receiving (receiving 32) ∧ BadCause.crcFailed ≠ .carrierDropped ∧
      ((receiving 1).onRadio fun r => { r with carrier := true }).radio.carrier = true ∧
      (framed 0x51 0 0 []).payload.length ≤ 64 ∧ frameCrcOk 0x51 (framed 0x51 0 0 []) = true ∧
      (framed 0x51 0 0 []).sender.toNat = 0 ∧ frameCrcOk 0x51 (framed 0x51 1 0 []) = true ∧
      (framed 0x51 1 0 []).sender.toNat = (receiving 1).cfg.identity.address ∧
      frameCrcOk 0x50 (framed 0x50 2 0 []) = true ∧
      (0x50 : Nat) ∉ [0x51, 0x62, 0x63, 0x74, 0x75, 0x86, 0x87] ∧
      (framed 0x50 2 0 []).sender.toNat ≠ (receiving 1).cfg.identity.address := by
  refine ⟨by decide, by decide, receiving_is _, receiving_is _, ?_⟩
  decide +kernel

/-- A record of peer 2 that holds the sequence number 9 of `framed`. -/
def knowing (syncs : Nat) : State :=
  (receiving syncs).onPeers fun p => { p with slots := [some { peer2 with sequenceSet := [9] }] }

theorem witness_FramesThatFailAreCounted_duplicate :
    Receiving (knowing 31) ∧ FramePasses (knowing 31) 0x62 (framed 0x62 2 0 []) ∧
      { peer2 with sequenceSet := [9] } ∈ (knowing 31).peers.held ∧
      (framed 0x62 2 0 []).seqNo.toNat ∈ [9] ∧ (framed 0x62 2 0 []).flags.getLsbD 7 = false ∧
      (after (exec (.faultFrame (framed 0x62 2 0 [])) (knowing 31))).radio.duplicates = 1 ∧
      (after (exec (.faultFrame (framed 0x62 2 0 [])) (knowing 31))).peers = (knowing 31).peers := by
  refine ⟨⟨rfl, rfl, rfl⟩, frame_passes ?_, List.mem_singleton.mpr rfl, ?_, ?_, ?_, ?_⟩ <;> decide +kernel

theorem witness_CommandEndOffersStateOnTrigger :
    (false = false ∧ ¬ TriggerFell idle idle) ∧ TriggerFell idle (inPhase .ready) ∧
      (inPhase .ready).loader.defaulted = false ∧ (inPhase .ready).radio.outbox.length < 8 ∧
      8 ≤ (crowded .tag).radio.outbox.length ∧ (∀ n ∈ (crowded .tag).radio.outbox, n.kind ≠ .state) ∧
      (∃ n ∈ (crowded .state).radio.outbox, n.kind = .state) ∧
      (sendingIn .idle { tagNotice with attempted := false }).radio.tx = .idle ∧
      ((sendingIn .idle { tagNotice with attempted := false }).onBattery fun b =>
          { b with mode := .full }).radio.outbox.find? ((sendingIn .idle tagNotice).onBattery fun b =>
          { b with mode := .full }).mayGo = some { tagNotice with attempted := false } ∧
      idle.radio.outbox.find? idle.mayGo = none ∧ (sendingIn .sending tagNotice).txKeyOn = true ∧
      (let s := sendingIn .defer { tagNotice with seqNo := none }
       s.radio.tx = .defer ∧ s.battery.mode = .survival ∧ s.radio.allowance = 0 ∧
         s.radio.outbox.find? s.mayGo = none ∧ (∀ n ∈ s.radio.outbox, n.attempted = true → n.seqNo = none) ∧
         ((crowded .state).onRadio fun r => { r with jammed := true }).radio.jammed = true) ∧
      triggersFallen idle ((crowded .tag).onSeq fun q => { q with phase := .ready, reason := some .fault }) = 2 := by
  refine ⟨⟨rfl, ?_⟩, .inr (.inl (by decide)), ?_⟩
  · simp [TriggerFell]
  · decide

/-- R126, R132: a close that completes changes position, sequence state and lockout reason, and an outbox full of URGENT
notices drops a STATE for each. -/
theorem test_each_trigger_counts :
    (after (exec .closeCompletion
        (((closing false).onRadio fun _ => (crowded .tag).radio).onSeq fun q =>
          { q with reason := some .fault }))).radio.outboxOverflow = 3 := by decide

theorem idle_outbox_inv : OutboxInv idle.radio := by
  refine ⟨by decide, ?_, by decide⟩
  exact List.Pairwise.nil

theorem witness_QueuesAndTablesKeepTheirBounds :
    OutboxInv idle.radio ∧ TablesInv idle ∧ PeersInv idle ∧ ClockInv idle.clock ∧ ∃ t, step idle = .next t := by
  refine ⟨idle_outbox_inv, ⟨?_, ?_, ?_, ?_, ?_⟩, ?_, ⟨?_, ?_, ?_⟩, _, rfl⟩
  all_goals first | decide | exact List.Pairwise.nil

theorem witness_OwnStateIsAcceptedByPeers :
    Reportable idle ∧ idle.seq.shot < 256 ∧ idle.seq.eventNumber < 65536 := by
  refine ⟨⟨by decide, by decide, by decide, ⟨by decide, by decide⟩, ?_⟩, by decide⟩
  intro x hx t ht
  rw [List.eq_of_mem_replicate hx] at ht
  cases ht

/-! ## Witnesses: frames of peers -/

def hearing (s : State) : State :=
  (s.onRadio fun r => { r with rx := .frame, windowSyncs := 31 }).onPeers fun p =>
    { p with slots := some peer2 :: List.replicate 15 none }

theorem accepted (s : State) (kind : Nat) (f : RxFrame) (running : s.startUp = none) (idleTx : s.radio.tx = .idle)
    (address : s.cfg.identity.address = 1) (length : f.payload.length ≤ 64)
    (crc : crc16 ([byte kind] ++ be16 f.sender.toNat ++ [f.seqNo, byte f.payload.length, f.flags] ++ f.payload) = f.crc)
    (sender : f.sender = 2) (fresh : f.seqNo = 9) (restarted : f.flags.getLsbD 7 = false) :
    FrameAccepted (hearing s) kind f 0 peer2 where
  receiving := ⟨running, rfl, by simp [Radio.txKey, hearing, State.onRadio, State.onPeers, idleTx]⟩
  passes := ⟨length, crc, by rw [sender]; exact ⟨by decide, by decide⟩, by
    show f.sender.toNat ≠ s.cfg.identity.address
    rw [sender, address]
    decide⟩
  window := by show (31 : Nat) < 32; decide
  record := by
    rw [sender]
    exact ⟨rfl, rfl⟩
  fresh := by
    intro q hq _
    have : q = peer2 := by simpa [hearing, State.onRadio, State.onPeers, PeerTable.held] using hq
    rw [this, fresh]
    decide
  noRestart := by
    intro h
    rw [restarted] at h
    cases h

/-- A STATE of peer 2: MIDPOINT, segments 3 and 4, switch CLOSED, one tag item. -/
def statePayload2 : List Byte :=
  [0x60#8, 3#8, 4#8, 0x40#8, 0#8, 0#8, 1#8, 0#8, 1#8, 0#8, 0#8, 60#8, 1#8] ++ [0x28#8, 4#8, 1#8, 2#8, 5#8]

def stateRx : RxFrame := framed 0x51 2 0 statePayload2
def emptyStateRx : RxFrame := framed 0x51 2 0 []

theorem witness_StateFrameIsRecorded :
    FrameAccepted (hearing idle) 0x51 stateRx 0 peer2 ∧ stateOk stateRx.payload = true ∧
      stateRx.flags.getLsbD 7 = false ∧ FrameAccepted (hearing idle) 0x51 emptyStateRx 0 peer2 ∧
      stateOk emptyStateRx.payload = false ∧ stateItems stateRx.payload ≠ [] ∧
      (hearing idle).tags.entry 2 1 = none ∧ stateRx.flags.getLsbD 7 = false := by
  refine ⟨accepted _ _ _ rfl rfl rfl (by decide) ?_ rfl rfl (by decide), ?_, ?_,
    accepted _ _ _ rfl rfl rfl (by decide) ?_ rfl rfl (by decide), ?_, ?_, ?_, ?_⟩ <;> decide +kernel

/-- A feeder tag table of entries of station 9 with its last places free. -/
def crammed (free : Nat) : State :=
  idle.onTags fun x =>
    { x with
      feeder := List.replicate (24 - free) (some ⟨9, 1, 1, .hotLine, .load, 7, 1, 517, false, 0⟩) ++
        List.replicate free none }

theorem witness_StateFrameIsRecorded_full_table :
    (FrameAccepted (hearing (crammed 0)) 0x51 stateRx 0 peer2 ∧
        (∀ i ∈ stateItems stateRx.payload, (hearing (crammed 0)).tags.entry 2 i.number = none) ∧
        (after (exec (.stateFrame stateRx) (hearing (crammed 0)))).tags.overflow = true) ∧
      (FrameAccepted (hearing (crammed 1)) 0x51 stateRx 0 peer2 ∧ (hearing (crammed 1)).tags.feeder[23]? = some none ∧
        (after (exec (.stateFrame stateRx) (hearing (crammed 1)))).tags.entry 2 1 ≠ none) := by
  refine ⟨⟨accepted _ _ _ rfl rfl rfl (by decide) ?_ rfl rfl (by decide), ?_, ?_⟩,
    accepted _ _ _ rfl rfl rfl (by decide) ?_ rfl rfl (by decide), rfl, ?_⟩ <;> decide +kernel

/-- R174: a STATE whose every item finds its place clears TAG OVERFLOW. -/
theorem test_state_clears_tag_overflow :
    (after (exec (.stateFrame stateRx) ((hearing idle).onTags fun x => { x with overflow := true }))).tags.overflow =
      false := by
  decide +kernel

/-- A FAULT of a downstream protective station: its source segment 3 is this station's load segment. -/
def faultRx : RxFrame := framed 0x62 2 0 [0x68#8, 3#8, 4#8, 0#8, 7#8, 1#8, 4#8]
/-- A FAULT of an upstream station: its load segment 2 is this station's source segment. -/
def upstreamRx : RxFrame := framed 0x62 2 0 [0x28#8, 1#8, 2#8, 0#8, 7#8, 1#8, 4#8]
def isolateRx : RxFrame := framed 0x63 2 0 [0x40#8, 3#8, 4#8, 0#8, 7#8, 4#8, 5#8]

def runningHead : State :=
  (station .head .timing idle).onOc fun o =>
    { o with unit := .running, active := some ⟨1, .fast, true, true, false⟩, fastArmed := true }

def lossPending : State :=
  { station .midpoint .reclaim idle with
    coord := { pendingLoss := some 0, countReset := none, tie := none }
    mech := { idle.mech with position := .closed }
    meas := { idle.meas with state := .sound } }

/-- The same station with no sound measurement, and one whose isolate window has passed by 10 ms. -/
def lossUnsound : State := lossPending.onMeas fun m => { m with state := .lost }
def lossPassed : State := lossPending.onClock fun c => { c with ms := lossPending.cfg.coordination.isolateWindow + 10 }

/-- R151: the pending loss is dropped uncounted when measurement is not sound. -/
theorem test_pending_loss_dropped :
    (after (exec (.faultFrame upstreamRx) (hearing lossUnsound))).coord.pendingLoss = none ∧
      (after (exec (.faultFrame upstreamRx) (hearing lossUnsound))).seq.isolateCount = 0 := by decide +kernel

/-- R153: the ISOLATE notice of a MANUAL and ISOLATE trip, from source segment 2 to load segment 3. -/
theorem test_isolate_notice :
    ((after (exec .tripCompletion (station .midpoint .tripping (isolating false true)))).radio.outbox.map
        Notice.payload).head? = some [0x70#8, 2#8, 3#8, 0#8, 0#8, 2#8, 3#8] := by decide

/-- A TIE in STANDBY with its source side dead, the delay served, and every gate check holding. -/
def servedTie : State :=
  { station .tie .standby (open_ .standby bothReady) with
    coord := { pendingLoss := none, countReset := none, tie := some ⟨true, 30000, true⟩ }
    meas := { idle.meas with state := .sound, src := ⟨.dead, 0, 3⟩, load := ⟨.live, 3, 0⟩ } }

def cutOffRx : RxFrame := framed 0x63 2 0 [0x40#8, 3#8, 4#8, 0#8, 7#8, 4#8, 2#8]

theorem witness_FaultAndIsolateFramesActOnThisStation :
    (FrameAccepted (hearing runningHead) 0x62 faultRx 0 peer2 ∧ faultOk faultRx.payload = true ∧
        (hearing runningHead).coord.pendingLoss = none ∧
        DownstreamProtective (hearing runningHead) faultRx.payload ∧
        (hearing runningHead).oc.active = some ⟨1, .fast, true, true, false⟩ ∧
        (hearing runningHead).oc.fastBlocked = false ∧ (hearing runningHead).oc.unit = .running) ∧
      (FrameAccepted (hearing lossPending) 0x62 upstreamRx 0 peer2 ∧ faultOk upstreamRx.payload = true ∧
        (hearing lossPending).coord.pendingLoss = some 0 ∧ CanOpen (hearing lossPending) ∧
        (hearing lossPending).cfg.identity.role = .midpoint ∧
        (payloadIdentity upstreamRx.payload).role ≠ .tie ∧
        byteAt upstreamRx.payload 2 = (hearing lossPending).cfg.identity.sourceSegment ∧
        (hearing lossPending).cfg.identity.sourceSegment ≠ 0 ∧ (hearing lossPending).meas.state = .sound) ∧
      (FrameAccepted (hearing (station .head .dead idle)) 0x63 isolateRx 0 peer2 ∧
        isolateOk isolateRx.payload = true ∧ (station .head .dead idle).cfg.identity.role ≠ .tie) ∧
      (FrameAccepted (hearing servedTie) 0x63 cutOffRx 0 peer2 ∧ isolateOk cutOffRx.payload = true ∧
        (hearing servedTie).coord.tie = some ⟨true, 30000, true⟩ ∧ GatePasses (hearing servedTie) ∧
        (hearing servedTie).mech.position = .opened ∧ (hearing servedTie).meas.src.presence = .dead ∧
        (hearing servedTie).meas.load.presence = .live ∧
        byteAt cutOffRx.payload 6 = (hearing servedTie).cfg.identity.sourceSegment) ∧
      (FrameAccepted (hearing lossUnsound) 0x62 upstreamRx 0 peer2 ∧
        (hearing lossUnsound).coord.pendingLoss = some 0 ∧
        0 + (hearing lossUnsound).cfg.coordination.isolateWindow ≥ (hearing lossUnsound).clock.ms / 10 * 10 ∧
        (hearing lossUnsound).cfg.identity.role = .midpoint ∧ (hearing lossUnsound).meas.state ≠ .sound) ∧
      (FrameAccepted (hearing lossPassed) 0x62 upstreamRx 0 peer2 ∧
        (hearing lossPassed).coord.pendingLoss = some 0 ∧
        ¬ 0 + (hearing lossPassed).cfg.coordination.isolateWindow ≥ (hearing lossPassed).clock.ms / 10 * 10) := by
  refine ⟨⟨accepted _ _ _ rfl rfl rfl (by decide) ?_ rfl rfl (by decide), ?_, ?_, ?_, ?_, ?_, ?_⟩,
    ⟨accepted _ _ _ rfl rfl rfl (by decide) ?_ rfl rfl (by decide), ?_, ?_, ⟨?_, ?_, ?_⟩, ?_, ?_, ?_, ?_, ?_⟩,
    ⟨accepted _ _ _ rfl rfl rfl (by decide) ?_ rfl rfl (by decide), ?_, ?_⟩,
    ⟨accepted _ _ _ rfl rfl rfl (by decide) ?_ rfl rfl (by decide), ?_, ?_,
      gate_passes _ (.inl rfl) rfl rfl rfl rfl rfl rfl rfl rfl, ?_, ?_, ?_, ?_⟩,
    ⟨accepted _ _ _ rfl rfl rfl (by decide) ?_ rfl rfl (by decide), ?_, ?_, ?_, ?_⟩,
    ⟨accepted _ _ _ rfl rfl rfl (by decide) ?_ rfl rfl (by decide), ?_, ?_⟩⟩
  case refine_4 => exact ⟨by decide, by decide, by decide, by decide, by decide⟩
  all_goals decide +kernel

/-- A unit that hears the FAULT of peer 2: its state, fast-blocked, hot-line forced, and whether an event is open. -/
def blockedIn (u : UnitState) (blocked forced event : Bool) : State :=
  hearing ((runningHead.onOc fun o =>
    { o with unit := u, fastBlocked := blocked, active := some ⟨1, .fast, true, !forced, forced⟩, hold := 3 }).onSeq
    fun q => { q with event := if event then some faultEvent else none })

theorem witness_FaultAndIsolateFramesActOnThisStation_fast_block :
    (∀ u blocked forced event, FrameAccepted (blockedIn u blocked forced event) 0x62 faultRx 0 peer2) ∧
      DownstreamProtective (blockedIn .hold false false true) faultRx.payload ∧
      (blockedIn .hold false false true).coord.pendingLoss = none ∧
      EventOpen (blockedIn .quiet false false true) ∧ ¬ EventOpen (blockedIn .quiet false false false) ∧
      (blockedIn .hold false true false).oc.active.map Active.hotForced = some true ∧
      (blockedIn .demanded false false false).oc.active.map Active.hotForced ≠ some true ∧
      (blockedIn .running true false true).oc.fastBlocked = true ∧
      (FrameAccepted (hearing idle) 0x62 (framed 0x62 2 0 []) 0 peer2 ∧ faultOk [] = false) ∧
      (FrameAccepted (hearing idle) 0x63 (framed 0x63 2 0 []) 0 peer2 ∧ isolateOk [] = false) := by
  refine ⟨fun _ _ _ _ => accepted _ _ _ rfl rfl rfl (by decide) ?_ rfl rfl (by decide), ?_, ?_, ?_, ?_, ?_, ?_, ?_,
    ⟨accepted _ _ _ rfl rfl rfl (by decide) ?_ rfl rfl (by decide), ?_⟩,
    ⟨accepted _ _ _ rfl rfl rfl (by decide) ?_ rfl rfl (by decide), ?_⟩⟩
  case refine_2 => exact ⟨by decide, by decide, by decide, by decide, by decide⟩
  all_goals try unfold EventOpen
  all_goals decide +kernel

def tagRx (action : Byte) : RxFrame := framed 0x74 2 0 [action, 0x28#8, 4#8, 1#8, 2#8, 5#8]
def recallRx : RxFrame := framed 0x75 2 0 ([0#8, 1#8, 1#8] ++ [0x28#8, 4#8, 1#8, 2#8, 5#8])
def otherRecallRx : RxFrame := framed 0x75 2 0 ([0#8, 7#8, 1#8] ++ [0x28#8, 4#8, 1#8, 2#8, 5#8])
def shortTagRx : RxFrame := framed 0x74 2 0 [0#8, 0x28#8, 4#8, 1#8, 2#8]
def slotZeroTagRx : RxFrame := framed 0x74 2 0 [0#8, 8#8, 4#8, 1#8, 2#8, 5#8]
def shortRecallRx : RxFrame := framed 0x75 2 0 ([0#8, 1#8, 2#8] ++ [0x28#8, 4#8, 1#8, 2#8, 5#8])
/-- R164: segment 250 and distinct numbers pass; segment 251, scope code 3 and a number held twice do not. -/
theorem test_item_checks :
    itemsOk [itemAt [0x28#8, 4#8, 250#8, 0#8, 1#8] 0, itemAt [0x48#8, 4#8, 0#8, 0#8, 1#8] 0] = true ∧
      itemsOk [itemAt [0x28#8, 4#8, 251#8, 0#8, 1#8] 0] = false ∧
      itemsOk [itemAt [0x2C#8, 4#8, 2#8, 0#8, 1#8] 0] = false ∧
      itemsOk [itemAt [0x28#8, 4#8, 2#8, 0#8, 1#8] 0, itemAt [0x38#8, 5#8, 3#8, 0#8, 2#8] 0] = false := by decide

def answerRx : RxFrame := framed 0x87 2 0 []
def confirmed : State := idle.onTags fun x => { x with unconfirmed := false }

/-- R177: an item of generation 4 against a tag of generation 1 in its slot counts a recall conflict. -/
theorem test_recall_conflict_counted :
    (after (exec (.recallFrame recallRx) (hearing (idle.onTags fun x =>
        { x with slots := [⟨none, 0⟩, ⟨some ⟨.hotLine, .station, 600, 4, 1, 0, 0, false⟩, 1⟩] ++
            List.replicate 6 ⟨none, 0⟩ })))).tags.recallConflicts = 1 := by decide +kernel

theorem witness_TagAndRecallFramesChangeTags :
    (FrameAccepted (hearing idle) 0x74 (tagRx 0) 0 peer2 ∧ (tagRx 0).payload.length = 6 ∧
        itemsOk [itemAt (tagRx 0).payload 1] = true ∧ bitSet (byteAt (tagRx 0).payload 0) 7 = false) ∧
      (FrameAccepted (hearing idle) 0x74 (tagRx 128) 0 peer2 ∧ (tagRx 128).payload.length = 6 ∧
        itemsOk [itemAt (tagRx 128).payload 1] = true ∧ bitSet (byteAt (tagRx 128).payload 0) 7 = true ∧
        ∀ x ∈ (hearing idle).tags.feeder, x = none) ∧
      (FrameAccepted (hearing idle) 0x75 recallRx 0 peer2 ∧ recallOk recallRx.payload = true ∧
        u16At recallRx.payload 0 = (hearing idle).cfg.identity.address ∧ (hearing idle).tags.unconfirmed = true ∧
        (hearing idle).tags.slots.length = 8 ∧ (hearing confirmed).tags.unconfirmed = false) ∧
      (FrameAccepted (hearing idle) 0x75 otherRecallRx 0 peer2 ∧ recallOk otherRecallRx.payload = true ∧
        u16At otherRecallRx.payload 0 ≠ (hearing idle).cfg.identity.address) ∧
      (FrameAccepted (hearing idle) 0x74 shortTagRx 0 peer2 ∧ shortTagRx.payload.length = 5 ∧
        itemsOk [itemAt slotZeroTagRx.payload 1] = true ∧ FrameAccepted (hearing idle) 0x75 shortRecallRx 0 peer2 ∧
        recallOk shortRecallRx.payload = false) ∧
      FrameAccepted (hearing idle) 0x87 answerRx 0 peer2 := by
  refine ⟨⟨accepted _ _ _ rfl rfl rfl (by decide) ?_ rfl rfl (by decide), ?_, ?_, ?_⟩,
    ⟨accepted _ _ _ rfl rfl rfl (by decide) ?_ rfl rfl (by decide), ?_, ?_, ?_, ?_⟩,
    ⟨accepted _ _ _ rfl rfl rfl (by decide) ?_ rfl rfl (by decide), ?_, ?_, ?_, ?_, ?_⟩,
    ⟨accepted _ _ _ rfl rfl rfl (by decide) ?_ rfl rfl (by decide), ?_, ?_⟩,
    ⟨accepted _ _ _ rfl rfl rfl (by decide) ?_ rfl rfl (by decide), ?_, ?_,
      accepted _ _ _ rfl rfl rfl (by decide) ?_ rfl rfl (by decide), ?_⟩,
    accepted _ _ _ rfl rfl rfl (by decide) ?_ rfl rfl (by decide)⟩
  all_goals decide +kernel

/-- A CREW ANSWER of station 5, which has no record. -/
def newcomerRx : RxFrame := framed 0x87 5 0 []
def restartedRx : RxFrame := framed 0x87 2 0x80 []

def fullTable : State :=
  (receiving 31).onPeers fun p =>
    { p with slots := (List.range 16).map fun k => some { peer2 with address := 100 + k } }

/-- A record whose segments 8 and 9 are not those of the station. -/
def farPeer : Peer := { peer2 with identity := some ⟨.midpoint, true, 8, 9⟩ }

/-- A HEAD on segments 2 and 3 whose Peer Table is full of records that it shares no segment with. -/
def fullStation : State :=
  (station .head .ready (receiving 31)).onPeers fun p =>
    { p with slots := (List.range 16).map fun k => some { farPeer with address := 100 + k } }

def nearFaultRx : RxFrame := framed 0x62 5 0 [0x68#8, 3#8, 4#8, 0#8, 7#8, 1#8, 4#8]
def farFaultRx : RxFrame := framed 0x62 5 0 [0x68#8, 6#8, 7#8, 0#8, 7#8, 1#8, 4#8]

def itemOf2 : FeederTag := ⟨2, 1, 1, .hotLine, .load, 4, 1, 517, false, 0⟩

theorem witness_NewSendersAndRestartsAreTaken :
    (Receiving (hearing idle) ∧ FramePasses (hearing idle) 0x87 newcomerRx ∧
        (hearing idle).radio.windowSyncs < 32 ∧
        (∀ q ∈ (hearing idle).peers.held, q.address ≠ newcomerRx.sender.toNat) ∧
        newcomerRx.flags.getLsbD 7 = false ∧ (hearing idle).peers.slots[1]? = some none ∧
        ∀ k < 1, (hearing idle).peers.slots[k]? ≠ some none) ∧
      (Receiving fullTable ∧ FramePasses fullTable 0x87 newcomerRx ∧ (∀ x ∈ fullTable.peers.slots, x ≠ none) ∧
        (∀ q ∈ fullTable.peers.held, q.address ≠ newcomerRx.sender.toNat) ∧
        ∀ q ∈ fullTable.peers.held, q.freshness ≠ .lost) ∧
      (FramePasses (hearing idle) 0x87 restartedRx ∧ (hearing idle).peers.slotOf 2 = some 0 ∧
        (∀ q ∈ (hearing idle).peers.held, q.address = restartedRx.sender.toNat → q = peer2) ∧
        restartedRx.flags.getLsbD 7 = true ∧ peer2.restarted = false ∧ (hearing idle).tags.itemsOf 2 = [] ∧
        ((hearing idle).onTags fun x => { x with feeder := [some itemOf2] }).tags.itemsOf 2 ≠ []) ∧
      (fullStation.startUp = none ∧ fullStation.radio.windowSyncs < 32 ∧ (∀ x ∈ fullStation.peers.slots, x ≠ none) ∧
        (∀ q ∈ fullStation.peers.held, q.freshness ≠ .lost) ∧ FramePasses fullStation 0x62 nearFaultRx ∧
        faultOk nearFaultRx.payload = true ∧ SharesSegment fullStation (payloadIdentity nearFaultRx.payload) ∧
        fullStation.peers.slots[0]? = some (some { farPeer with address := 100 }) ∧
        NonAdjacent fullStation { farPeer with address := 100 } ∧
        FramePasses fullStation 0x62 farFaultRx ∧ faultOk farFaultRx.payload = true ∧
        ((after (exec (.faultFrame nearFaultRx) fullStation)).peers.evictions = 1 ∧
          (after (exec (.faultFrame farFaultRx) fullStation)).peers.tableFull = 1)) := by
  refine ⟨⟨⟨rfl, rfl, rfl⟩, frame_passes ?_, ?_⟩, ⟨⟨rfl, rfl, rfl⟩, frame_passes ?_, ?_⟩,
    ⟨frame_passes ?_, ?_⟩,
    ⟨?_, ?_, ?_, ?_, frame_passes ?_, ?_, ⟨3, ?_⟩, ?_, ?far,
      frame_passes ?_, ?_, ?_, ?_⟩⟩
  case far =>
    rintro id ⟨⟩ ⟨n, hn, h, h'⟩
    have a : n = 8 ∨ n = 9 := h
    have b : n = 2 ∨ n = 3 := h'
    omega
  all_goals decide +kernel

def restartedNewcomerRx : RxFrame := framed 0x87 5 0x80 []

/-- A full table of which slot 0 alone is LOST. -/
def oneLost : State :=
  fullTable.onPeers fun p =>
    { p with
      slots := some { peer2 with address := 100, freshness := .lost } ::
        (List.range 15).map fun k => some { peer2 with address := 101 + k } }

theorem witness_NewSendersAndRestartsAreTaken_restart :
    (Receiving (hearing idle) ∧ FramePasses (hearing idle) 0x87 restartedNewcomerRx ∧
        restartedNewcomerRx.flags.getLsbD 7 = true ∧
        (∀ q ∈ (hearing idle).peers.held, q.address ≠ restartedNewcomerRx.sender.toNat) ∧
        (hearing idle).tags.itemsOf 5 = [] ∧
        ((hearing idle).onTags fun x => { x with feeder := [some { itemOf2 with holder := 5, orphan := true }] }
          ).tags.itemsOf 5 ≠ []) ∧
      (Receiving oneLost ∧ FramePasses oneLost 0x87 restartedNewcomerRx ∧ oneLost.radio.windowSyncs < 32 ∧
        (∀ x ∈ oneLost.peers.slots, x ≠ none) ∧
        (∀ q ∈ oneLost.peers.held, q.address ≠ restartedNewcomerRx.sender.toNat) ∧
        EarliestOf (fun r => r.freshness = .lost) oneLost 0 { peer2 with address := 100, freshness := .lost }) ∧
      FramePasses fullTable 0x87 restartedNewcomerRx := by
  refine ⟨⟨⟨rfl, rfl, rfl⟩, frame_passes ?_, ?_⟩,
    ⟨⟨rfl, rfl, rfl⟩, frame_passes ?_, ?_, ?_, ?_, rfl, rfl, ?only⟩, frame_passes ?_⟩
  case only =>
    intro k r held lost
    cases k with
    | zero => cases held; exact .inr ⟨rfl, Nat.le_refl 0⟩
    | succ k =>
      simp only [oneLost, State.onPeers, List.getElem?_cons_succ, List.getElem?_map, Option.map_eq_some_iff] at held
      obtain ⟨_, _, h⟩ := held
      cases h
      cases lost
  all_goals decide +kernel

/-! ## Witnesses: crew asks -/

def askWith (operand grade : Byte) (kind : AskKind) : AskFrame :=
  let a : AskFrame :=
    { sender := 700, seqNo := 9, flags := 0, target := 1, crewId := 517, grade, operand, crc := 0 }
  { a with
    crc :=
      crc16 ([0x86#8] ++ be16 700 ++ [9#8, byte (askRx kind a).payload.length, 0#8] ++ (askRx kind a).payload) }

/-- Crew 517 of grade 4 is on the roster; slot 1 holds its tag of grade 4, feeder entry 0 an ORPHAN. -/
def crewed (s : State) : State :=
  { s with
    loader :=
      { s.loader with settings := { s.loader.settings with crew := { s.loader.settings.crew with roster := [⟨517, 4⟩] } } }
    radio := { s.radio with rx := .frame, windowSyncs := 31 }
    tags :=
      { s.tags with
        slots := [⟨none, 255⟩, ⟨some ⟨.hotLine, .station, 600, 4, 1, 0, 0, false⟩, 1⟩] ++ List.replicate 6 ⟨none, 255⟩
        feeder := some { itemOf2 with orphan := true } :: List.replicate 23 none } }

/-- An ask of crew 517 by handset 700 for address 1, with a requested grade in 1..4 and its CRC. -/
abbrev AskFormed (kind : AskKind) (a : AskFrame) (grade : Nat) : Prop :=
  let f := askRx kind a
  f.payload.length ≤ 64 ∧
    crc16 ([byte 0x86] ++ be16 f.sender.toNat ++ [f.seqNo, byte f.payload.length, f.flags] ++ f.payload) = f.crc ∧
    f.sender.toNat = 700 ∧ u16At f.payload 0 = 1 ∧ 1 ≤ a.grade.toNat ∧ a.grade.toNat ≤ 4 ∧ a.crewId = 517 ∧
    grade = min 4 a.grade.toNat

theorem ask_of_crew (s : State) (kind : AskKind) (a : AskFrame) (grade : Nat) (running : s.startUp = none)
    (idleTx : s.radio.tx = .idle) (address : s.cfg.identity.address = 1) (dedupe : s.tags.dedupe = [])
    (formed : AskFormed kind a grade) : AskOfCrew (crewed s) kind a grade where
  taken :=
    { receiving := ⟨running, rfl, by simp [Radio.txKey, crewed, idleTx]⟩
      passes := ⟨formed.1, formed.2.1, by rw [formed.2.2.1]; exact ⟨by decide, by decide⟩, by
        show (askRx kind a).sender.toNat ≠ s.cfg.identity.address
        rw [formed.2.2.1, address]
        decide⟩
      window := by show (31 : Nat) < 32; decide
      target := fun _ => by
        show u16At (askRx kind a).payload 0 = s.cfg.identity.address
        rw [formed.2.2.2.1, address]
      fresh := by
        intro x hx
        simp [crewed, dedupe] at hx }
  requested := ⟨formed.2.2.2.2.1, formed.2.2.2.2.2.1⟩
  member := ⟨⟨517, 4⟩, by simp [crewed, State.cfg, formed.2.2.2.2.2.2.1], formed.2.2.2.2.2.2.2⟩

theorem witness_AsksChangeTheTagTables :
    (AskOfCrew (crewed confirmed) .place (askWith 0 4 .place) 4 ∧ (askWith 0 4 .place).operand.toNat / 16 % 4 ≤ 2 ∧
        (crewed confirmed).tags.unconfirmed = false ∧ ((crewed confirmed).tags.slot 2).tag = none ∧
        (∀ m, m < 2 → within 1 7 m → ((crewed confirmed).tags.slot m).tag ≠ none) ∧
        (crewed idle).tags.unconfirmed = true ∧ (crewed confirmed).loader.defaulted = false ∧
        (crewed confirmed).radio.outbox.length < 8) ∧
      (AskOfCrew (crewed confirmed) .place (askWith 0x10 4 .place) 4 ∧
        (crewed confirmed).cfg.identity.sourceSegment = 0) ∧
      (AskOfCrew (crewed confirmed) .remove (askWith 1 1 .remove) 1 ∧
        AskOfCrew (crewed confirmed) .remove (askWith 1 4 .remove) 4 ∧
        AskOfCrew (crewed confirmed) .remove (askWith 8 4 .remove) 4 ∧
        AskOfCrew (crewed confirmed) .remove (askWith 0x80 4 .remove) 4 ∧
        ((crewed confirmed).tags.slot 1).tag = some ⟨.hotLine, .station, 600, 4, 1, 0, 0, false⟩) ∧
      (AskOfCrew (crewed confirmed) .clearOrphan (askWith 0x80 4 .clearOrphan) 4 ∧
        AskOfCrew (crewed confirmed) .clearOrphan (askWith 0x98 4 .clearOrphan) 4 ∧
        (crewed confirmed).tags.feeder.getD 0 none = some { itemOf2 with orphan := true } ∧
        max (crewed confirmed).cfg.crew.orphanGrade 1 ≤ 4) := by
  refine ⟨⟨?_, by decide, rfl, rfl, ?_, rfl, rfl, by decide⟩, ⟨?_, rfl⟩, ⟨?_, ?_, ?_, ?_, rfl⟩, ⟨?_, ?_, rfl, by decide⟩⟩
  case refine_2 =>
    intro m hm hw
    obtain ⟨low, -⟩ := hw
    have : m = 1 := by omega
    subst this
    decide
  all_goals
    exact ask_of_crew _ _ _ _ rfl rfl rfl rfl (by decide +kernel)

/-- Seven URGENT notices held: one place is left. -/
def sevenHeld : State := confirmed.onRadio fun r => { r with outbox := List.replicate 7 tagNotice }

theorem witness_AsksChangeTheTagTables_boundaries :
    (AskOfCrew (crewed sevenHeld) .place (askWith 0 4 .place) 4 ∧
        AskOfCrew (crewed sevenHeld) .remove (askWith 1 4 .remove) 4 ∧
        (crewed sevenHeld).radio.outbox.length = 7 ∧ tagNotice.kind.urgent = true ∧
        (crewed sevenHeld).loader.defaulted = false) ∧
      AskOfCrew (crewed confirmed) .clearOrphan (askWith 8 4 .clearOrphan) 4 ∧
      (AskOfCrew (crewed confirmed) .clearOrphan (askWith 7 4 .clearOrphan) 4 ∧
        ((crewed confirmed).tags.slot 7).tag = none) ∧
      (AskOfCrew (crewed confirmed) .clearOrphan (askWith 1 4 .clearOrphan) 4 ∧
        ((crewed confirmed).tags.slot 1).tag =
          some ⟨.hotLine, .station, 600, 4, 1, 0, 0, false⟩) := by
  refine ⟨⟨?_, ?_, rfl, rfl, rfl⟩, ?_, ⟨?_, rfl⟩, ?_, rfl⟩
  all_goals
    exact ask_of_crew _ _ _ _ rfl rfl rfl rfl (by decide +kernel)

def badAskRx : RxFrame := framed 0x86 700 0 [0#8, 1#8, 0#8, 0#8, 9#8, 1#8, 0#8]
def badRemoveRx : RxFrame := framed 0x86 700 0 [0#8, 1#8, 0#8, 0#8, 1#8, 0#8, 0xE5#8]

/-- R167: the BAD ASK to a REMOVE of requested grade 0 carries its selector, FEEDER 5. -/
theorem test_bad_ask_carries_selector :
    (((after (exec (.badAsk badRemoveRx) (receiving 31))).tags.dedupe.map TakenAsk.answer).head?.getD []).getD 5 0 =
      0x85#8 := by decide +kernel

def knownAsk : State :=
  (crewed idle).onTags fun x => { x with dedupe := [⟨700, 9, [0x02#8]⟩] }

theorem witness_AsksOperateTheSwitch :
    (AskOfCrew (crewed idle) .confirm (askWith 0 1 .confirm) 1 ∧
        AskOfCrew (crewed idle) .confirm (askWith 0 2 .confirm) 2) ∧
      (AskOfCrew (crewed (closedIn .ready)) .openAsk (askWith 0 2 .openAsk) 2 ∧
        (crewed (closedIn .ready)).cfg.crew.operateGrade ≤ 2 ∧ CanOpen (crewed (closedIn .ready))) ∧
      (AskOfCrew (crewed idle) .closeAsk (askWith 0 2 .closeAsk) 2 ∧ (crewed idle).seq.phase = .lockout ∧
        (crewed idle).gateReason = some .unconfirmed) ∧
      AskOfCrew (crewed idle) .status (askWith 0 1 .status) 1 ∧
      (AskTaken (receiving 31) badAskRx ∧ 6 < byteAt badAskRx.payload 4) ∧
      (AskTaken (receiving 31) badRemoveRx ∧ ¬ within 1 4 (byteAt badRemoveRx.payload 5) ∧
        byteAt badRemoveRx.payload 4 = 1) ∧
      (AskTaken (receiving 31) (askRx .openAsk (askWith 0 2 .openAsk)) ∧
        ∀ e ∈ (receiving 31).cfg.crew.roster, e.crewId ≠ 517) ∧
      (Receiving knownAsk ∧ FramePasses knownAsk 0x86 (askRx .openAsk (askWith 0 2 .openAsk)) ∧
        knownAsk.radio.windowSyncs < 32 ∧
        knownAsk.tags.dedupe.find? (fun x => x.handset = 700 && x.seqNo = 9) = some ⟨700, 9, [0x02#8]⟩) := by
  refine ⟨⟨?_, ?_⟩, ⟨?_, by decide, ⟨by decide, by decide, by decide⟩⟩, ⟨?_, by decide, by decide⟩, ?_,
    ⟨⟨⟨rfl, rfl, rfl⟩, frame_passes ?_, ?_, ?_, ?_⟩, ?_⟩,
    ⟨⟨⟨rfl, rfl, rfl⟩, frame_passes ?_, ?_, ?_, ?_⟩, fun h => absurd h.1 (by decide), by decide⟩,
    ⟨⟨⟨rfl, rfl, rfl⟩, frame_passes ?_, ?_, ?_, ?_⟩, ?_⟩,
    ⟨⟨rfl, rfl, rfl⟩, frame_passes ?_, ?_, ?_⟩⟩
  case refine_1 => exact ask_of_crew _ _ _ _ rfl rfl rfl rfl (by decide +kernel)
  case refine_2 => exact ask_of_crew _ _ _ _ rfl rfl rfl rfl (by decide +kernel)
  case refine_3 => exact ask_of_crew _ _ _ _ rfl rfl rfl rfl (by decide +kernel)
  case refine_4 => exact ask_of_crew _ _ _ _ rfl rfl rfl rfl (by decide +kernel)
  case refine_5 => exact ask_of_crew _ _ _ _ rfl rfl rfl rfl (by decide +kernel)
  all_goals decide +kernel

/-- A station of address 2, to which no ask of these tests is addressed. -/
def elsewhere : State :=
  let s := receiving 31
  { s with
    loader :=
      { s.loader with
        settings := { s.loader.settings with identity := { s.loader.settings.identity with address := 2 } } } }

/-- The asks of these tests, of every kind, as frames. -/
theorem ask_frame (kind : AskKind) :
    let f := askRx kind (askWith 0 2 kind)
    f.payload.length ≤ 64 ∧
      crc16 ([byte 0x86] ++ be16 f.sender.toNat ++ [f.seqNo, byte f.payload.length, f.flags] ++ f.payload) = f.crc ∧
      f.sender.toNat = 700 ∧ u16At f.payload 0 = 1 := by
  cases kind <;> decide +kernel

theorem ask_passes (s : State) (kind : AskKind) (address : s.cfg.identity.address < 700) :
    FramePasses s 0x86 (askRx kind (askWith 0 2 kind)) := by
  obtain ⟨length, crc, sender, -⟩ := ask_frame kind
  refine ⟨length, crc, ?_, ?_⟩ <;> rw [sender]
  · exact ⟨by decide, by decide⟩
  · omega

theorem witness_AsksOperateTheSwitch_every_kind :
    (∀ kind : AskKind, AskTaken (receiving 31) (askRx kind (askWith 0 2 kind)) ∧
        FramePasses elsewhere 0x86 (askRx kind (askWith 0 2 kind)) ∧
        FramePasses knownAsk 0x86 (askRx kind (askWith 0 2 kind)) ∧
        u16At (askRx kind (askWith 0 2 kind)).payload 0 ≠ elsewhere.cfg.identity.address) ∧
      (Receiving elsewhere ∧ elsewhere.radio.windowSyncs < 32 ∧ FramePasses elsewhere 0x86 badAskRx ∧
        2 ≤ badAskRx.payload.length ∧ u16At badAskRx.payload 0 ≠ elsewhere.cfg.identity.address) ∧
      (FramePasses knownAsk 0x86 badAskRx ∧ u16At badAskRx.payload 0 = knownAsk.cfg.identity.address ∧
        knownAsk.tags.dedupe.find?
          (fun x => x.handset = badAskRx.sender.toNat && x.seqNo = badAskRx.seqNo.toNat) = some ⟨700, 9, [0x02#8]⟩ ∧
        knownAsk.loader.defaulted = false ∧ knownAsk.radio.outbox.length < 8) ∧
      (FramePasses knownAsk 0x86 (framed 0x86 700 0 [7#8]) ∧ (framed 0x86 700 0 [7#8]).payload.length = 1) := by
  refine ⟨fun kind => ⟨⟨⟨rfl, rfl, rfl⟩, ask_passes _ kind (by decide), by decide, fun _ => (ask_frame kind).2.2.2,
      fun _ held => absurd held (List.not_mem_nil)⟩, ask_passes _ kind (by decide), ask_passes _ kind (by decide), ?_⟩,
    ⟨⟨rfl, rfl, rfl⟩, ?_, frame_passes ?_, ?_, ?_⟩,
    ⟨frame_passes ?_, ?_, ?_, ?_, ?_⟩, ⟨frame_passes ?_, ?_⟩⟩
  · rw [(ask_frame kind).2.2.2]
    decide
  all_goals decide +kernel

/-! ## Witnesses: peers' timers, coordination, panel, port -/

def silent (f : Freshness) (ms : Nat) : State :=
  { hearing idle with
    clock := { idle.clock with ms }
    peers := { idle.peers with slots := some { peer2 with freshness := f } :: List.replicate 15 none } }

def qualified : State :=
  { servedTie with
    coord := { pendingLoss := none, countReset := none, tie := some ⟨true, 30000, false⟩ }
    peers :=
      { idle.peers with
        slots := some { peer2 with isolation := some ⟨7, true, 4, 2, 0, false⟩ } :: List.replicate 15 none } }

/-- A TIE in STANDBY with a block at the Feeder Coordinator and a tie delay. -/
def tieBlock (tie : Option TieDelay) (s : State) : State :=
  { s with
    coord := { s.coord with tie }
    mail := { s.mail with coordinator := [{ pub 0 with lossRuns := false }] } }

theorem witness_PeerAndTieTimersExpire :
    ((tieBlock none servedTie).startUp = none ∧
        (tieBlock none servedTie).mail.coordinator = { pub 0 with lossRuns := false } :: [] ∧
        (tieBlock none servedTie).cfg.identity.role = .tie ∧ (tieBlock none servedTie).loader.defaulted = false ∧
        ((tieBlock none servedTie).seq.phase = .standby ∧ (tieBlock none servedTie).meas.src.presence = .dead ∧
          (tieBlock none servedTie).meas.load.presence = .live ∧ (tieBlock none servedTie).coord.tie = none) ∧
        (tieBlock (some ⟨false, 5, true⟩) servedTie).coord.tie = some ⟨false, 5, true⟩ ∧
        (tieBlock none { servedTie with meas := idle.meas }).meas.src.presence = .unknown ∧
        (tieBlock (some ⟨true, 5, false⟩) servedTie).coord.tie = some ⟨true, 5, false⟩ ∧
        (tieBlock (some ⟨true, 30000, true⟩) servedTie).peers.held = [] ∧
        (tieBlock (some ⟨true, 30000, true⟩) qualified).coord.tie = some ⟨true, 30000, true⟩ ∧
        { peer2 with isolation := some ⟨7, true, 4, 2, 0, false⟩ } ∈
          (tieBlock (some ⟨true, 30000, true⟩) qualified).peers.held ∧
        GatePasses (tieBlock (some ⟨true, 30000, true⟩) qualified) ∧
        ({ tieBlock (some ⟨true, 30000, true⟩) qualified with energy := Energy.reset } : State).gateReason =
          some .tripEnergy) ∧
    ((silent .fresh 180000).startUp = none ∧
        (silent .fresh 180000).peers.slots[(0 : Fin 16).val]? = some (some peer2) ∧
        peer2.lastHeard + 3 * peer2.interval ≤ (silent .fresh 180000).clock.ms / 10 * 10 ∧
        (silent .fresh 179999).clock.ms / 10 * 10 < peer2.lastHeard + 3 * peer2.interval) ∧
      ((silent .stale 480000).peers.slots[(0 : Fin 16).val]? = some (some { peer2 with freshness := .stale }) ∧
        peer2.lastHeard + 8 * peer2.interval ≤ (silent .stale 480000).clock.ms / 10 * 10 ∧
        (silent .stale 479999).clock.ms / 10 * 10 < peer2.lastHeard + 8 * peer2.interval) ∧
      ((idle.onCoord fun c => { c with countReset := some 30000 }).coord.countReset = some 30000 ∧
        idle.cfg.sequence.reclaim * 1000 ≤ 30000) ∧
      (qualified.coord.tie = some ⟨true, 30000, false⟩ ∧ qualified.cfg.coordination.tieDelay * 1000 ≤ 30000 ∧
        (∀ p ∈ servedTie.peers.held, servedTie.qualifies true p = false) ∧
        { peer2 with isolation := some ⟨7, true, 4, 2, 0, false⟩ } ∈ qualified.peers.held ∧
        qualified.cfg.identity.sourceSegment = 2 ∧
        qualified.clock.ms / 10 * 10 ≤ 0 + qualified.cfg.coordination.validity * 60000 ∧
        GatePasses qualified ∧ qualified.mech.position = .opened) := by
  refine ⟨⟨?_, ?_, ?_, ?_, ?_, ?_, ?_, ?_, ?_, ?_, ?_, gate_passes _ (.inl rfl) rfl rfl rfl rfl rfl rfl rfl rfl, ?_⟩,
    ?_, ?_, ?_, ⟨?_, ?_, ?_, ?_, ?_, ?_, gate_passes _ (.inl rfl) rfl rfl rfl rfl rfl rfl rfl rfl, ?_⟩⟩
  all_goals decide

def lossPub : Publication := { pub 0 with srcWas := .live, src := .dead, time := 2000 }

def losing (lastPickup : Option Nat) (peers : List (Option Peer)) : State :=
  { lossPending with
    oc := { idle.oc with lastPickup }
    mail := { idle.mail with coordinator := [lossPub] }
    coord := { pendingLoss := none, countReset := none, tie := none }
    peers := { idle.peers with slots := peers } }

def upstreamPeer : Peer :=
  { peer2 with
    identity := some ⟨.head, true, 1, 2⟩
    fault := some ⟨7, ⟨true, false, false, false⟩, 4, 1, false, 2000⟩ }

theorem witness_LossesCountTowardOpening :
    (losing (some 0) []).startUp = none ∧ (losing (some 0) []).mail.coordinator = lossPub :: [] ∧
      (losing (some 0) []).cfg.identity.role = .midpoint ∧ (losing (some 0) []).loader.defaulted = false ∧
      CanOpen (losing (some 0) []) ∧ lossPub.sound = true ∧ lossPub.srcWas = .live ∧ lossPub.src = .dead ∧
      lossPub.time ≤ 0 + (losing (some 0) []).cfg.coordination.sectionWindow ∧
      (losing none [some upstreamPeer]).oc.lastPickup = none ∧
      upstreamPeer ∈ (losing none [some upstreamPeer]).peers.held ∧ upstreamPeer.freshness ≠ .lost ∧
      (losing none [some upstreamPeer]).upstream upstreamPeer = true ∧
      lossPub.time ≤ 2000 + (losing none [some upstreamPeer]).cfg.coordination.isolateWindow ∧
      (losing none []).peers.held = [] ∧ lossPub.lossRuns = true ∧ lossPub.lastPickup = none ∧
      (losing (some 0) []).cfg.identity.protectiveFlag = true ∧
      ((losing (some 0) []).onLoader fun l =>
          { l with
            settings :=
              { l.settings with
                identity := { l.settings.identity with protectiveFlag := false } } }).cfg.identity.protectiveFlag =
        false ∧
      (let s := (losing (some 2001) []).onMail fun m =>
         { m with coordinator := [{ lossPub with lastPickup := some 0 }] }
       s.oc.lastPickup = some 2001 ∧ ¬ 2001 ≤ lossPub.time) ∧
      (let p : Publication := { lossPub with srcWas := .unknown, src := .live }
       p.srcWas ≠ .live ∧ p.src = .live) ∧
      (InOperation { losing (some 0) [] with seq := tripping.seq, mech := tripping.mech } ∧
        InOperation { losing (some 0) [] with seq := (closing true).seq, mech := (closing true).mech } ∧
        tripping.seq.event = none) := by
  refine ⟨rfl, rfl, rfl, rfl, ⟨?_, ?_, ?_⟩, ?_⟩
  iterate 3 decide
  unfold InOperation
  decide

/-- R43: a loss taken after a commanded open starts an event in TRIPPING. -/
theorem test_open_in_tripping_starts_event :
    ((after (exec .coordinatorBlock
        { (losing (some 0) []).onLoader fun l =>
            { l with
              settings := { l.settings with identity := { l.settings.identity with protectiveFlag := false } } } with
          seq := { tripping.seq with sectionalizeCount := 3 }, mech := tripping.mech })).seq.event.map
      EventContext.number) = some 1 := by decide

/-- The key seen ON for some twelfths of a millisecond and not yet taken. -/
def keySeen (elapsed : Nat) : State := idle.onTags fun x => { x with keyInput := ⟨true, some elapsed⟩ }

/-- Three buttons down, each seen let go for 100 ms and not taken. -/
def letGo : State :=
  (closedIn .ready).onTags fun x =>
    { x with
      openPressed := true, closePressed := true, confirmPressed := true, openInput := ⟨false, some 1200⟩
      closeInput := ⟨false, some 1200⟩, confirmInput := ⟨false, some 1200⟩ }

/-- R162: the release that had held is taken before the press, which then makes its request. -/
theorem test_second_press_opens : (after (exec (.openButton 50) letGo)).seq.phase = .tripping := by decide

/-- R161: a key that had been ON for 50 ms when it is seen OFF is taken ON and then, having held OFF for 50 ms, OFF. -/
theorem test_key_seen_off_was_on :
    (after (exec (.hotLineKey false 50 .one) (keySeen 1200))).tags.slot 0 = ⟨none, 1⟩ ∧
      (after (exec (.hotLineKey false 50 .one) (keySeen 1200))).radio.outbox.length = 3 := by decide

theorem witness_PanelActsAfterItsFilter :
    idle.startUp = none ∧ HasHeld idle.tags.keyInput 50 50 false ∧ HasHeld (keySeen 600).tags.keyInput 50 50 false ∧
      NotYet (keySeen 599).tags.keyInput true 49 50 false ∧ NotYet (keySeen 1199).tags.keyInput false 50 50 false ∧
      StillToTake (keySeen 1200).tags.keyInput 50 50 false ∧
      StillToTake letGo.tags.openInput 50 50 letGo.tags.openPressed ∧
      StillToTake letGo.tags.closeInput 50 50 letGo.tags.closePressed ∧
      StillToTake letGo.tags.confirmInput 50 50 letGo.tags.confirmPressed ∧
      idle.tags.keyOn = false ∧ idle.tags.slots.length = 8 ∧ idle.loader.defaulted = false ∧
      idle.radio.outbox.length < 8 ∧
      ((idle.onTags fun x => { x with keyOn := true, slots := [⟨some slotZero, 1⟩] }).tags.slot 0).tag =
        some slotZero ∧
      CanOpen (closedIn .ready) ∧ (closedIn .ready).tags.openPressed = false ∧
      GatePasses (expired .lockout bothReady) ∧ (expired .lockout bothReady).tags.closePressed = false ∧
      (expired .lockout bothReady).mech.position = .opened ∧ idle.seq.phase = .lockout ∧
      idle.gateReason = some .unconfirmed ∧
      ((expired .lockout bothReady).onTags fun x => { x with overflow := true }).gateReason = some .tag ∧
      idle.tags.confirmPressed = false ∧ idle.mech.position ≠ .jammed ∧
      (let s := idle.onMech fun m => { m with position := .jammed }
       s.mech.position = .jammed ∧ s.mech.contactOpen ≠ s.mech.contactClosed ∧
         (after (exec (.confirmButton 50) s)).mech.position = .opened ∧
         (let u := s.onMech fun m => { m with contactClosed := m.contactOpen }
          u.mech.contactOpen = u.mech.contactClosed)) ∧
      (let s := idle.onTags fun x => { x with openPressed := true, closePressed := true, confirmPressed := true }
       s.tags.openPressed = true ∧ s.tags.closePressed = true ∧ s.tags.confirmPressed = true) := by
  refine ⟨?_, ?_, ?_, ?_, ?_, ?_, ?_, ?_, ?_, ?_, ?_, ?_, ?_, ?_, ⟨?_, ?_, ?_⟩, ?_, expired_gate _, ?_⟩
  all_goals try simp only [NotYet, StillToTake, HasHeld, held_iff]
  all_goals decide

/-- R161: a press shorter than 50 ms moves the filter alone; a release before the 50 ms stops it. -/
theorem test_short_press_is_no_press :
    (after (exec (.openButton 49) idle)).tags.openPressed = false ∧
      (after (exec (.openButton 49) idle)).tags.openInput = ⟨true, some 588⟩ ∧
      (after (exec (.buttonRelease .openButton 0) (after (exec (.openButton 49) idle)))).tags.openInput =
        ⟨false, none⟩ := by decide

theorem witness_PortReadsReturnAreas :
    idle.startUp = none ∧ idle.port.transaction = .idle ∧ idle.peers.peerAt 15 = none ∧
      (hearing idle).peers.peerAt 0 = some peer2 ∧ idle.tags.feeder.getD 23 none = none ∧
      (crewed idle).tags.feeder.getD 0 none = some { itemOf2 with orphan := true } ∧
      idle.log.records[31]? = none ∧ 3 < (4#8).toNat ∧
      (idle.onLog fun l => { l with records := [⟨7, 5, Quad.none, Quad.zero, 0, false, false, .cleared, none, .good⟩] }
        ).log.records[0]? = some ⟨7, 5, Quad.none, Quad.zero, 0, false, false, .cleared, none, .good⟩ ∧
      (idle.onPort fun p => { p with transaction := .taken [0#8] none false }).port.transaction =
        .taken [0#8] none false ∧
      (servedTie.startUp = none ∧ servedTie.port.transaction = .idle ∧
        servedTie.coord.tie = some ⟨true, 30000, true⟩ ∧ row 97 4 0 ∈ statusRows servedTie ∧
        servedTie.battery.last.v0 = none ∧ row 47 2 0 ∈ statusRows servedTie) := by decide

theorem witness_CauseReadTakesHighestPriority :
    idle.startUp = none ∧ idle.port.transaction = .idle ∧ idle.alarms.flags &&& idle.alarms.enables = 0#12 ∧
      (let a : Alarms := { idle.alarms with flags := 0xA00#12 }
       (a.flags &&& a.enables).getLsbD 9 = true ∧ ∀ j < 9, (a.flags &&& a.enables).getLsbD j = false) ∧
      (idle.onPort fun p => { p with transaction := .taken [0#8, 10#8] (some .peerLost) false }).port.transaction =
        .taken [0#8, 10#8] (some .peerLost) false ∧ 1 < 2 := by decide

theorem witness_PortCommandsReachTheirOwners :
    idle.startUp = none ∧ idle.port.transaction = .idle ∧ CanOpen (closedIn .ready) ∧
      (tripping.seq.phase = .tripping ∧ tripping.mech.operation = .trip ∧ tripping.battery.test ≠ .running) ∧
      ((closing false).seq.phase = .reclosing ∧ (closing false).mech.operation = .close) ∧
      (inPhase .dead).seq.phase = .dead ∧ (station .tie .lockout idle).cfg.identity.role = .tie ∧
      GatePasses (expired .lockout bothReady) ∧ (expired .lockout bothReady).mech.position = .opened ∧
      GatePasses ((expired .lockout bothReady).onMech fun m => { m with position := .closed }) ∧
      idle.gateReason = some .unconfirmed ∧ TestMayStart testable chargedGroup ∧ testable.battery.test = .idle ∧
      TestMustWait idle ∧ (underTest chargedGroup).battery.test ≠ .idle ∧
      idle.battery.retryTimer = none ∧ testable.battery.retryTimer ≠ none ∧ (1#8 : Byte) ≠ 0#8 := by
  refine ⟨rfl, rfl, ⟨?_, ?_, ?_⟩, ?_, ?_, ?_, ?_, expired_gate _, rfl,
    gate_passes _ (.inr rfl) rfl rfl rfl rfl rfl rfl rfl rfl, ?_, testable_starts, ?_⟩
  all_goals try unfold TestMustWait
  all_goals decide

end Sys2Proof.Tests
end

section
/-! PROOFS. The sample port and the Measurement Unit (chapter 1): how a running machine takes a command, how the layout
of 1.1 reads back, what each operation of block formation, completion and loss does to the block, and the statements
about them; and that the machine after a power-on meets every invariant. -/

namespace Sys2Proof.Machine

variable {s : State} {x : SampleSet} {m : Meas}

/-! ## Commands -/

/-- Once control is with the blocks a command has its effect and its end (R189). -/
theorem act_running (h : s.startUp = none) (body : State → State) : act body s = .next (finish false s (body s)) := by
  simp [act, State.running, h]

theorem exec_sampleSet (bytes : List Byte) : exec (.sampleSet bytes) s = act (State.takeTransfer bytes) s := rfl

/-! ## The layout of 1.1 read back -/

/-- A byte at a place is the one that the bytes from an earlier place on hold there. -/
theorem byteAt_drop (bs : List Byte) (i k : Nat) : byteAt (bs.drop i) k = byteAt bs (i + k) := by
  simp [byteAt, List.getD_eq_getElem?_getD]

/-- A field at a place is the one that the bytes from that place on begin with. -/
theorem u16At_of_drop {bs l : List Byte} {i n : Nat} (h : bs.drop i = be16 n ++ l) (hn : n ≤ 65535) :
    u16At bs i = n := by
  have high : byteAt bs i = n / 256 % 256 := by rw [← Nat.add_zero i, ← byteAt_drop, h]; rfl
  have low : byteAt bs (i + 1) = n % 256 := by rw [← byteAt_drop, h]; rfl
  rw [u16At, high, low]
  omega

theorem s16At_of_drop {bs l : List Byte} {i : Nat} {v : Int} (h : bs.drop i = signedBytes v ++ l) (hv : signed16 v) :
    s16At bs i = v := by
  obtain ⟨low, high⟩ := hv
  simp only [s16At, u16At_of_drop h (by omega)]
  split <;> omega

/-- The aux group stands in bytes 11 to 20 (1.1). -/
theorem parseAux_of_drop {bs : List Byte} {g : AuxGroup} (h : bs.drop 11 = auxBytes g)
    (hg : g.vbat ≤ 65535 ∧ signed16 g.ibat ∧ g.vtrip ≤ 65535 ∧ g.vclose ≤ 65535 ∧ signed16 g.temp) :
    parseAux bs = g := by
  obtain ⟨vbat, ibat, vtrip, vclose, temp⟩ := hg
  have later (k : Nat) : bs.drop (11 + k) = (auxBytes g).drop k := by rw [← List.drop_drop, h]
  simp only [parseAux, u16At_of_drop h vbat, s16At_of_drop (later 2) ibat, u16At_of_drop (later 4) vtrip,
    u16At_of_drop (later 6) vclose, s16At_of_drop (i := 19) (l := []) (later 8) temp]

/-- The first byte carries the marker 101, AUX and the set count (1.1). -/
theorem headByte_fields (hx : x.Sendable) :
    let b := byteAt (sampleBytes x) 0
    bits b 5 3 = 5 ∧ bitSet b 4 = x.aux.isSome ∧ bits b 0 4 = x.count := by
  have count := hx.count
  have head : byteAt (sampleBytes x) 0 = (160 + flag x.aux.isSome 16 + x.count) % 256 := rfl
  cases h : x.aux.isSome <;> simp [head, h, bits, bitSet, flag] <;> omega

theorem sampleBytes_length (x : SampleSet) : (sampleBytes x).length = if x.aux.isSome then 21 else 11 := by
  obtain ⟨_, _, _, _, _, _, _ | g⟩ := x <;> rfl

/-- Settles O9: each field of the layout of 1.1 stands at its place. -/
theorem sampleSetLayoutReadsBack : Obligations.SampleSetLayoutReadsBack := by
  intro x hx
  obtain ⟨marker, auxBit, count⟩ := headByte_fields hx
  obtain ⟨ia, ib, ic, vsrc, vload⟩ := hx.samples
  have samples : s16At (sampleBytes x) 1 = x.ia ∧ s16At (sampleBytes x) 3 = x.ib ∧ s16At (sampleBytes x) 5 = x.ic ∧
      s16At (sampleBytes x) 7 = x.vsrc ∧ s16At (sampleBytes x) 9 = x.vload :=
    ⟨s16At_of_drop rfl ia, s16At_of_drop rfl ib, s16At_of_drop rfl ic, s16At_of_drop rfl vsrc,
      s16At_of_drop rfl vload⟩
  have aux : (if x.aux.isSome then some (parseAux (sampleBytes x)) else none) = x.aux := by
    cases h : x.aux with
    | none => rfl
    | some g =>
      have place : (sampleBytes x).drop 11 = auxBytes g := by simp [sampleBytes, h, signedBytes, be16]
      simp [parseAux_of_drop place (hx.auxRange g h)]
  simpa [parseSampleSet, marker, auxBit, count, sampleBytes_length, samples, aux] using hx.auxCount

/-- A transfer that fails a check of R1 carries no set. -/
theorem parseSampleSet_malformed {bytes : List Byte}
    (h : ¬ (bits (byteAt bytes 0) 5 3 = 5 ∧ bytes.length = (if bitSet (byteAt bytes 0) 4 then 21 else 11) ∧
      (bitSet (byteAt bytes 0) 4 = true → bits (byteAt bytes 0) 0 4 = 15))) : parseSampleSet bytes = none :=
  if_neg h

/-- The transfer of a sendable set is that set taken (R1). -/
theorem exec_sendable (hs : s.startUp = none) (hx : x.Sendable) :
    exec (.sampleSet (sampleBytes x)) s = .next (finish false s (s.takeSet x)) := by
  simp [exec_sampleSet, act_running hs, State.takeTransfer, sampleSetLayoutReadsBack x hx]

/-! ## Block formation (R2 to R8, R13) -/

theorem add_eq_sumsWith (x : SampleSet) (t : Sums) : t.add x = sumsWith t x := by
  simp [Sums.add, sumsWith, square, clampResidual, SampleSet.residual, Nat.pow_two]

/-- Within the signed 16-bit range a sample at a limit is one of the two limits (R8). -/
theorem atLimit_of_signed16 {v : Int} (h : signed16 v) : atLimit v = (v = -32768 || v = 32767) := by
  obtain ⟨low, high⟩ := h
  have lowest : v ≤ -32768 ↔ v = -32768 := by omega
  have highest : 32767 ≤ v ↔ v = 32767 := by omega
  simp [atLimit, lowest, highest]

theorem addClips_eq_clipsWith (hx : x.Sendable) (c : Quad Bool) : addClips x c = clipsWith c x := by
  obtain ⟨ia, ib, ic, -, -⟩ := hx.samples
  have residual : atLimit x.residual = (x.ia + x.ib + x.ic ≤ -32768 || 32767 ≤ x.ia + x.ib + x.ic) := rfl
  simp [addClips, clipsWith, Quad.union, Quad.zip, atLimit_of_signed16 ia, atLimit_of_signed16 ib,
    atLimit_of_signed16 ic, residual, Bool.or_assoc]

theorem captureAux_eq (x : SampleSet) (m : Meas) :
    m.captureAux x =
      { m with aux := if x.aux.isSome then x.aux else m.aux, auxNew := m.auxNew || x.aux.isSome } := by
  cases h : x.aux <;> simp [Meas.captureAux, h]

/-- A set of count 0 has no aux group to be taken (1.1, R13). -/
theorem captureAux_count_zero (hx : x.Sendable) (h : x.count = 0) : m.captureAux x = m := by
  cases e : x.aux with
  | none => simp [Meas.captureAux, e]
  | some g => simpa [h] using hx.auxCount (by simp [e])

/-- With a block filling, or at count 0, the set joins the block (R3). -/
theorem form_joins (hx : x.Sendable) (h : m.filling = true ∨ x.count = 0) :
    m.form x =
      { m.captureAux x with
        filling := true, position := m.position + 1, sums := sumsWith m.sums x, clips := clipsWith m.clips x } := by
  simp [Meas.form, h, Meas.addSet, captureAux_eq, add_eq_sumsWith, addClips_eq_clipsWith hx]

/-- A set of count 0 joins a block with its samples alone (R3, R13). -/
theorem form_begins (hx : x.Sendable) (h : x.count = 0) :
    m.form x =
      { m with
        filling := true, position := m.position + 1, sums := sumsWith m.sums x, clips := clipsWith m.clips x } := by
  rw [form_joins hx (.inr h), captureAux_count_zero hx h]

/-- In SEEKING a set of another count adds nothing (R3). -/
theorem form_waits (hf : m.filling = false) (hc : x.count ≠ 0) : m.form x = m.captureAux x := by
  simp [Meas.form, hf, hc]

/-- An arrival outside LOST keeps the measurement state (R5). -/
theorem arrive_measuring (h : m.state ≠ .lost) :
    m.arrive x = { m with current := some x, gap := some 0, lastCount := some x.count } := by
  simp [Meas.arrive, h]

/-- An order break discards a part-filled block (R2). -/
theorem breakOrder_partial (hf : m.filling = true) (hp : 0 < m.position) :
    m.breakOrder =
      { m with
        filling := false, position := 0, sums := Sums.zero, clips := Quad.none, recovery := 0
        discards := m.discards + 1, blocksDiscarded := min (m.blocksDiscarded + 1) 65535 } := by
  simp [Meas.breakOrder, Meas.clearBlock, sat16, hf, hp]

/-- With nothing held an order break discards nothing (R2). -/
theorem breakOrder_empty (hp : m.position = 0) : m.breakOrder = { m with filling := false } := by
  simp [Meas.breakOrder, hp]

/-- No set before it, or the count after the last one (R2). -/
theorem inOrder_iff {count : Nat} :
    m.inOrder count = true ↔ m.lastCount = none ∨ ∃ last, m.lastCount = some last ∧ count = (last + 1) % 16 := by
  cases h : m.lastCount <;> simp [Meas.inOrder, h]

/-! ## What a set taken comes to (R2 to R4)

`m` is the Measurement Unit that block formation, or the order break, leaves. -/

theorem takeSet_adds (h : s.meas.inOrder x.count = true) (hm : (s.meas.arrive x).form x = m) (hp : m.position ≠ 32) :
    s.takeSet x = s.onMeas fun _ => m := by
  subst hm
  simp only [State.takeSet, h, if_true]
  exact if_neg hp

theorem takeSet_completes (h : s.meas.inOrder x.count = true) (hm : (s.meas.arrive x).form x = m)
    (hp : m.position = 32) : s.takeSet x = (s.onMeas fun _ => m).completeBlock := by
  subst hm
  simp only [State.takeSet, h, if_true]
  exact if_pos hp

theorem takeSet_breaks (h : s.meas.inOrder x.count = false) (hm : (s.meas.arrive x).breakOrder = m)
    (few : m.discards < 4) : s.takeSet x = s.onMeas fun _ => if x.count = 0 then m.form x else m := by
  subst hm
  have few : ¬ 4 ≤ ((s.onMeas (Meas.arrive x)).onMeas Meas.breakOrder).meas.discards := by simpa using few
  simp only [State.takeSet, h, if_false, if_neg few, Bool.false_eq_true]
  split <;> rfl

theorem takeSet_loses (h : s.meas.inOrder x.count = false) (hm : (s.meas.arrive x).breakOrder = m)
    (four : 4 ≤ m.discards) : s.takeSet x = (s.onMeas fun _ => m).lose := by
  subst hm
  simp only [State.takeSet, h, if_false, Bool.false_eq_true]
  exact if_pos four

/-- Settles O10: an in-order set short of the 32nd arrives and is formed, and completes nothing. -/
theorem inOrderSetJoinsBlock : Obligations.InOrderSetJoinsBlock := by
  intro s x hs hx hp follows arrived
  have order := inOrder_iff.mpr follows
  have capture : (s.meas.arrive x).captureAux x = arrived := captureAux_eq x _
  refine ⟨fun joins => ?_, fun hf hc => ?_⟩
  · have formed := form_joins (m := s.meas.arrive x) hx joins
    have short : s.meas.position + 1 ≠ 32 := by omega
    rw [exec_sendable hs hx, takeSet_adds order formed short, capture]
    rfl
  · have formed := (form_waits (m := s.meas.arrive x) hf hc).trans capture
    have short : s.meas.position ≠ 32 := by omega
    rw [exec_sendable hs hx, takeSet_adds order formed short]
    rfl

/-! ## Measurement loss (R4, R12) -/

/-- Without a load test to be aborted a loss moves the Measurement Unit, the alarm and the timers it stops (R12). -/
theorem lose_without_test (h : s.battery.test ≠ .running ∨ s.meas.src.presence ≠ .live) :
    s.lose = ((s.onMeas Meas.lose).raise .measurementLost).stopCoordTimers := by
  have quiet (hb : s.battery.test ≠ .running) :
      ((s.onMeas Meas.lose).raise .measurementLost).abortTest = (s.onMeas Meas.lose).raise .measurementLost :=
    if_neg hb
  obtain hb | hp := h
  · simp [State.lose, quiet hb]
  · simp [State.lose, hp]

/-- What a loss without a load test to be aborted does to every part (R12, R152). -/
theorem lose_effect (h : s.battery.test ≠ .running ∨ s.meas.src.presence ≠ .live) :
    Only [.meas, .alarms, .coord] s s.lose ∧
      s.lose.alarms = { s.alarms with flags := s.alarms.flags ||| 2#12 } ∧
      s.lose.coord.countReset = none ∧ s.lose.coord.pendingLoss = s.coord.pendingLoss ∧
      s.lose.meas = s.meas.lose := by
  rw [lose_without_test h]
  refine ⟨by simp, rfl, ?_, rfl, rfl⟩
  simp [State.stopCoordTimers, State.raise, Meas.lose, Side.reset]

theorem meas_lose_eq (m : Meas) :
    m.lose =
      { m with
        state := .lost, losses := min (m.losses + 1) 65535, filling := false, position := 0, sums := Sums.zero
        clips := Quad.none, lastCount := none, gap := none, discards := 0, src := ⟨.unknown, 0, 0⟩
        load := ⟨.unknown, 0, 0⟩
        blocksDiscarded :=
          if m.filling = true ∧ 0 < m.position then min (m.blocksDiscarded + 1) 65535 else m.blocksDiscarded } := by
  simp [Meas.lose, Meas.clearBlock, sat16, Side.reset]

/-- Settles O12: the gap timer at its limit makes the loss. -/
theorem gapLimitLosesMeasurement : Obligations.GapLimitLosesMeasurement := by
  intro s elapsed hs hm hg limit quiet
  have expired : (decide (s.meas.state ≠ .lost) && due s.meas.gap s.derived.gapLimit) = true := by
    simp [hm, hg, due, limit]
  have answer : exec .gapTimerExpiry s = .next (finish false s s.lose) := by
    simp only [exec, execGapTimerExpiry, act_running hs, when, expired, if_true]
  obtain ⟨frame, alarms, countReset, pendingLoss, meas⟩ := lose_effect quiet
  exact ⟨s.lose, answer, frame, alarms, countReset, pendingLoss, meas.trans (meas_lose_eq _)⟩

/-- Settles O8: a malformed transfer is counted; an order break discards what is held, and the fourth discard in a row
is a loss. -/
theorem arrivalsOutOfOrderAreCounted : Obligations.ArrivalsOutOfOrderAreCounted := by
  constructor
  · intro s bytes hs malformed
    rw [exec_sampleSet, act_running hs, State.takeTransfer, parseSampleSet_malformed malformed]
    rfl
  intro s x last hs hx hm hl hc arrived discarded
  have order : s.meas.inOrder x.count = false := by simp [Meas.inOrder, hl, hc]
  have arrives : s.meas.arrive x = arrived := arrive_measuring hm
  have broken (hf : s.meas.filling = true) (hp : 0 < s.meas.position) :=
    (congrArg Meas.breakOrder arrives).trans (breakOrder_partial hf hp)
  rw [exec_sendable hs hx]
  refine ⟨fun hf hp few => ?_, fun hp few => ?_, fun hf hp many quiet => ?_⟩
  · rw [takeSet_breaks order (broken hf hp) (Nat.succ_lt_succ few)]
    refine ⟨fun h => ?_, fun h => ?_⟩
    · rw [if_neg h]; rfl
    · rw [if_pos h, form_begins hx h]; rfl
  · have empty := (congrArg Meas.breakOrder arrives).trans (breakOrder_empty hp)
    rw [takeSet_breaks order empty few]
    refine ⟨fun h => ?_, fun h => ?_⟩
    · rw [if_neg h]; rfl
    · rw [if_pos h, form_begins hx h, show arrived.position + 1 = 1 from congrArg (· + 1) hp]; rfl
  · have four : 4 ≤ (s.meas.arrive x).breakOrder.discards := by rw [broken hf hp]; exact Nat.succ_le_succ many
    obtain ⟨frame, alarms, countReset, pendingLoss, meas⟩ :=
      lose_effect (s := s.onMeas fun _ => (s.meas.arrive x).breakOrder) (by rw [broken hf hp]; exact quiet)
    rw [takeSet_loses order rfl four]
    refine ⟨_, rfl, ((only_onMeas (by simp)).mpr only_refl).trans frame, alarms, countReset, pendingLoss, ?_⟩
    rw [meas, meas_lose_eq, onMeas_meas, broken hf hp]
    rfl

/-! ## Completion and publication (R3, R5, R9 to R11, R14) -/

/-- The Measurement Unit after a completion outside LOST: the second block of a recovery leads to SOUND (R5). -/
theorem complete_measuring (h : m.state ≠ .lost) (tl th confirm : Nat) :
    m.complete tl th confirm =
      { m with
        auxNew := false, position := 0, sums := Sums.zero, clips := Quad.none, discards := 0
        src := m.src.advance tl th confirm (m.sums.src / 32)
        load := m.load.advance tl th confirm (m.sums.load / 32)
        state := if m.state = .recovering ∧ m.recovery = 0 then .recovering else .sound
        recovery := if m.state = .recovering then m.recovery + 1 else m.recovery } := by
  cases e : m.state with
  | recovering =>
    by_cases first : m.recovery = 0
    · simp [Meas.complete, Meas.recover, Meas.clearBlock, e, first]
    · have second : ¬ m.recovery + 1 < 2 := by omega
      simp [Meas.complete, Meas.recover, Meas.clearBlock, e, first, second]
  | sound => simp [Meas.complete, Meas.recover, Meas.clearBlock, e]
  | lost => exact absurd e h

/-- The conditions of role, position and sequence under which the voltage-loss logic runs (R148). -/
theorem lossStation_iff :
    s.lossStation = true ↔
      s.cfg.identity.role = .midpoint ∧ s.loader.defaulted = false ∧ s.mech.position = .closed ∧
        s.seq.phase.isClosed = true := by
  unfold State.lossStation State.role State.defaulted
  simp only [Bool.and_eq_true, Bool.not_eq_true', decide_eq_true_iff, and_assoc]

/-- The consumers of a publication, the Energy Monitor and the re-ask with an aux group alone (R9, R14, R51). -/
theorem publish_eq (waiting : Prop) [Decidable waiting] (p : Publication) (b : Mail) :
    b.publish (decide waiting) p =
      { b with
        overcurrent := b.overcurrent ++ [p], battery := b.battery ++ [p], coordinator := b.coordinator ++ [p]
        energy := if p.auxNew then b.energy ++ [p] else b.energy
        reasks := if p.auxNew ∧ waiting then b.reasks + 1 else b.reasks } := by
  simp [Mail.publish]

/-- What a completion does to the parts that it touches, and that it touches no other (R9, R14, R152). -/
theorem completeBlock_effect (s : State) :
    let after := s.meas.complete s.derived.tl s.derived.th s.cfg.measurement.confirm
    Only [.meas, .mail, .coord] s s.completeBlock ∧ s.completeBlock.meas = after ∧
      s.completeBlock.mail = s.mail.publish (s.seq.phase = .rechargeWait) (s.publicationOf after) ∧
      s.completeBlock.coord.pendingLoss = s.coord.pendingLoss ∧
      s.completeBlock.coord.countReset = if after.src.presence = .live then s.coord.countReset else none :=
  ⟨by simp [State.completeBlock], rfl, rfl, rfl, rfl⟩

/-! ## Presence (R10, R11) -/

/-- A run that stops at the confirm count stands there once it has that length. -/
theorem min_eq_confirm {run confirm : Nat} : min run confirm = confirm ↔ confirm ≤ run := by omega

theorem advance_above {tl th confirm q : Nat} (h : th ≤ q) (y : Side) :
    y.advance tl th confirm q =
      ⟨if confirm ≤ y.above + 1 then .live else y.presence, min (y.above + 1) confirm, 0⟩ := by
  simp only [Side.advance, if_pos h, min_eq_confirm]

theorem advance_below {tl th confirm q : Nat} (h : q < tl) (ht : tl < th) (y : Side) :
    y.advance tl th confirm q =
      ⟨if confirm ≤ y.below + 1 then .dead else y.presence, 0, min (y.below + 1) confirm⟩ := by
  have short : ¬ th ≤ q := Nat.not_le.mpr (Nat.lt_trans h ht)
  simp only [Side.advance, if_neg short, if_pos h, min_eq_confirm]

theorem advance_between {tl th confirm q : Nat} (low : tl ≤ q) (high : q < th) (y : Side) :
    y.advance tl th confirm q = { y with above := 0, below := 0 } := by
  simp only [Side.advance, if_neg (Nat.not_le.mpr high), if_neg (Nat.not_lt.mpr low)]

/-- Settles O11: the 32nd set completes the block that it joins, and each side's presence advances by its own
mean square. -/
theorem completedBlockIsPublished : Obligations.CompletedBlockIsPublished := by
  constructor
  · intro s x last hs hx hf hp hm hl hc aux fresh sums confirm
    have order := inOrder_iff.mpr (.inr ⟨last, hl, hc⟩)
    obtain ⟨m, formed⟩ : ∃ m, (s.meas.arrive x).form x = m := ⟨_, rfl⟩
    -- What is published are the figures of `m`, the Measurement Unit that the 32nd set has joined.
    have joined := formed.symm.trans (form_joins hx (.inl hf))
    rw [arrive_measuring hm, captureAux_eq] at joined
    have full : m.position = 32 := by rw [joined]; exact congrArg (· + 1) hp
    have measuring : m.state ≠ .lost := by rw [joined]; exact hm
    obtain ⟨frame, meas, mail, pendingLoss, countReset⟩ := completeBlock_effect (s.onMeas fun _ => m)
    rw [exec_sendable hs hx, takeSet_completes order formed full]
    refine ⟨_, (s.onMeas fun _ => m).publicationOf (m.complete s.derived.tl s.derived.th confirm), rfl,
      ((only_onMeas (by simp)).mpr only_refl).trans frame, (mail.trans (publish_eq ..)).trans ?_, ?_, ?_, ?_, ?_, ?_,
      ?_, ?_, rfl, ?_, rfl, ?_, rfl, rfl, lossStation_iff, rfl,
      (meas.trans (complete_measuring measuring ..)).trans ?_, pendingLoss, countReset⟩
    all_goals subst joined; rfl
  · intro tl th confirm q y order
    refine ⟨fun h => ?_, fun h => ?_, fun h => advance_between h.1 h.2 y⟩
    · simp only [advance_above h, and_self]
    · simp only [advance_below h order, and_self]

/-! ## The state after a power-on -/

theorem switchInv_reset : SwitchInv State.reset where
  mech := by constructor <;> decide
  tripping := by decide
  reclosing := by decide
  jammed := by decide
  resting := by decide
  starting := by decide

theorem ocInv_reset : OcInv Oc.reset := by constructor <;> decide

theorem hotLineInv_reset : HotLineInv State.reset := by constructor <;> decide

/-- The charge is at half of its built-in capacity and the modes of R111 wait for START (log entry 7). -/
theorem batteryInv_reset : BatteryInv State.reset where
  mode := nofun
  charge := nofun
  soc := by decide
  unseen _ := rfl
  testing := nofun

theorem outboxInv_reset : OutboxInv Radio.reset := by constructor <;> decide

theorem tablesInv_reset : TablesInv State.reset := by constructor <;> decide

theorem peersInv_reset : PeersInv State.reset := List.nodup_nil

theorem clockInv_reset : ClockInv Clock.reset := by constructor <;> decide

theorem startingInv_reset : StartingInv State.reset where
  tags _ := by decide
  line _ := ⟨rfl, rfl, rfl⟩
  unit _ := ⟨rfl, rfl⟩
  operation _ := rfl

/-- Settles O60: nothing is in flight, every queue and table is empty, and every figure is at its power-on value. -/
theorem invariantsHoldAtReset : Obligations.InvariantsHoldAtReset :=
  ⟨switchInv_reset, ocInv_reset, hotLineInv_reset, batteryInv_reset, outboxInv_reset, tablesInv_reset, peersInv_reset,
    clockInv_reset, startingInv_reset⟩

end Sys2Proof.Machine
end
